-- ==== Sys2Proof/Word.lean ====
section
/-! DEFINITION. The widths of the sequencer's values and the two encoded forms an instruction has. -/

namespace Sys2Proof

/-- A value of the 5-bit STEP register (rule R21). -/
abbrev StepNo := BitVec 5

/-- A line vector L in the LINE format (rules R41, R65): bit 0 is P1, bit 5 is P9. -/
abbrev Line := BitVec 6

/-- A value of the 12-bit accumulator MASK (rule R25). -/
abbrev Mask := BitVec 12

/-- A report byte (rule R66). -/
abbrev Byte := BitVec 8

/-- A stimulus word SW of the EVT format, `{rst, begin, tick, L}` (rule R70). -/
abbrev Stim := BitVec 9

/-- An encoded instruction: either a value of STEP with the line vector of the TICK that performs it
(the STEP format and its LINE operand, rules R61 and R65), or a stimulus word (the EVT format, rule R70). -/
inductive Word where
  | stp (step : StepNo) (line : Line)
  | evt (sw : Stim)
deriving DecidableEq, Repr

end Sys2Proof
end

