-- ==== Sys2Proof/Syntax.lean ====
section
/-! DEFINITION. The names of lines, buttons and lanes, the form of a lane-table entry, and the instructions:
one constructor of `Instr` per row of the opcode table. -/

namespace Sys2Proof

/-- The six input lines, by the document's names (rule R41). -/
inductive LineName where
  | p1 | p2 | p3 | p4 | p6 | p9
deriving DecidableEq, Repr

/-- The twelve buttons of MASK, in the order of rule R26. -/
inductive Button where
  | up | down | left | right | b | c | a | start | mode | x | y | z
deriving DecidableEq, Repr

/-- The kinds of step operation (rule R61): a toggle or one of the three sampling lanes. -/
inductive Kind where
  | tgl | dir | as | ext
deriving DecidableEq, Repr

/-- An entry of the lane table (rule R63): the kind, the finalize mark, and for each sampled line the
button its level is written to. -/
structure LaneEntry where
  kind : Kind
  fin : Bool
  pairs : List (LineName × Button)
deriving DecidableEq, Repr

/-- The instructions. The first seventeen are the step operations of rule R62, one per value of STEP; a
sampling one carries the line vector of the TICK that performs it. The last five are the events of the EVT
format (rule R71). -/
inductive Instr where
  /-- S0.DIR, rule R95: sample through the directional + B/C lane. -/
  | s0Dir (l : Line)
  /-- S1.TGL, rule R96: toggle the select line. -/
  | s1Tgl
  /-- S2.AS, rule R97: sample through the A/Start lane. -/
  | s2As (l : Line)
  /-- S3.TGL, rule R98: toggle the select line. -/
  | s3Tgl
  /-- S4.DIR, rule R99: sample through the directional + B/C lane. -/
  | s4Dir (l : Line)
  /-- S5.TGL, rule R100: toggle the select line. -/
  | s5Tgl
  /-- S6.AS, rule R101: sample through the A/Start lane. -/
  | s6As (l : Line)
  /-- S7.TGL, rule R102: toggle the select line. -/
  | s7Tgl
  /-- S8.DIR, rule R103: sample through the directional + B/C lane. -/
  | s8Dir (l : Line)
  /-- S9.TGL, rule R104: toggle the select line. -/
  | s9Tgl
  /-- S10.AS, rule R105: sample through the A/Start lane. -/
  | s10As (l : Line)
  /-- S11.TGL, rule R106: toggle the select line. -/
  | s11Tgl
  /-- S12.EXT, rule R107: sample through the extended button lane. -/
  | s12Ext (l : Line)
  /-- S13.TGL, rule R108: toggle the select line. -/
  | s13Tgl
  /-- S14.AS, rule R109: sample through the A/Start lane. -/
  | s14As (l : Line)
  /-- S15.TGL, rule R110: toggle the select line. -/
  | s15Tgl
  /-- S16.DIRFIN, rule R111: sample through the directional + B/C lane, then finalize. -/
  | s16Dirfin (l : Line)
  /-- RST, rule R81: the RESET event. -/
  | rst
  /-- NOP, rule R85: no event. -/
  | nop
  /-- TCK, rules R83 and R84: the event TICK(L). -/
  | tck (l : Line)
  /-- BEG, rule R82: the BEGIN event. -/
  | beg
  /-- TB, rule R86: TICK(L), then BEGIN. -/
  | tb (l : Line)
deriving DecidableEq, Repr

end Sys2Proof
end

