-- ==== Sys2Proof/Decode.lean ====
section
/-! DEFINITION. The decoder of the two formats, total on every word and rejecting by name, and after it the
encoder, both written from the step map (rule R62) and the stimulus table (rule R71). -/

namespace Sys2Proof

/-- Why a word is not an instruction. -/
inductive Reject where
  /-- The STEP format's reserved values 17 to 31 (rule R69 (a)). -/
  | reservedStep (step : StepNo)
  /-- A container with bits set beyond the 5 bits of the STEP format or the 9 bits of the EVT format (rule R60). -/
  | outsideFormat
  /-- A container of more than two bytes: no format has that width (rule R60). -/
  | noSuchFormat
deriving DecidableEq, Repr

/-- The STEP format (rules R61, R62): the step operation a value of STEP stands for, with the line vector of
its TICK as operand where it samples. -/
def decodeStep (st : StepNo) (l : Line) : Except Reject Instr :=
  match st.toNat with
  | 0 => .ok (.s0Dir l)
  | 1 => .ok .s1Tgl
  | 2 => .ok (.s2As l)
  | 3 => .ok .s3Tgl
  | 4 => .ok (.s4Dir l)
  | 5 => .ok .s5Tgl
  | 6 => .ok (.s6As l)
  | 7 => .ok .s7Tgl
  | 8 => .ok (.s8Dir l)
  | 9 => .ok .s9Tgl
  | 10 => .ok (.s10As l)
  | 11 => .ok .s11Tgl
  | 12 => .ok (.s12Ext l)
  | 13 => .ok .s13Tgl
  | 14 => .ok (.s14As l)
  | 15 => .ok .s15Tgl
  | 16 => .ok (.s16Dirfin l)
  | _ => .error (.reservedStep st)

/-- The line field of a stimulus word, SW[5:0] (rule R70). -/
def stimLine (sw : Stim) : Line := sw.extractLsb' 0 6

/-- The EVT format (rule R71), total over the 512 words: rst overrides, then begin and tick select. -/
def decodeEvt (sw : Stim) : Instr :=
  if sw.getLsbD 8 then .rst
  else
    match sw.getLsbD 7, sw.getLsbD 6 with
    | false, false => .nop
    | false, true => .tck (stimLine sw)
    | true, false => .beg
    | true, true => .tb (stimLine sw)

/-- The decoder, total on every encoded word. -/
def decode (w : Word) : Except Reject Instr :=
  match w with
  | .stp st l => decodeStep st l
  | .evt sw => .ok (decodeEvt sw)

/-- A stimulus word from its four fields, rst at bit 8 down to the lines at bits 5 to 0 (rule R70). -/
def stimOf (rst beg tick : Bool) (l : Line) : Stim :=
  BitVec.ofBool rst ++ BitVec.ofBool beg ++ BitVec.ofBool tick ++ l

/-- The encoder: the word of an instruction, in the canonical forms of rules R62 and R71 (bits that a form
ignores are 0, rule R73). -/
def encode (i : Instr) : Word :=
  match i with
  | .s0Dir l => .stp 0b00000#5 l
  | .s1Tgl => .stp 0b00001#5 0#6
  | .s2As l => .stp 0b00010#5 l
  | .s3Tgl => .stp 0b00011#5 0#6
  | .s4Dir l => .stp 0b00100#5 l
  | .s5Tgl => .stp 0b00101#5 0#6
  | .s6As l => .stp 0b00110#5 l
  | .s7Tgl => .stp 0b00111#5 0#6
  | .s8Dir l => .stp 0b01000#5 l
  | .s9Tgl => .stp 0b01001#5 0#6
  | .s10As l => .stp 0b01010#5 l
  | .s11Tgl => .stp 0b01011#5 0#6
  | .s12Ext l => .stp 0b01100#5 l
  | .s13Tgl => .stp 0b01101#5 0#6
  | .s14As l => .stp 0b01110#5 l
  | .s15Tgl => .stp 0b01111#5 0#6
  | .s16Dirfin l => .stp 0b10000#5 l
  | .rst => .evt (stimOf true false false 0#6)
  | .nop => .evt (stimOf false false false 0#6)
  | .tck l => .evt (stimOf false false true l)
  | .beg => .evt (stimOf false true false 0#6)
  | .tb l => .evt (stimOf false true true l)

/-- The word in a container of `nbits` bits, bit 0 least significant: one byte holds the STEP format (its LINE
operand lies above it and is 0), two bytes hold the EVT format. A container with a bit set beyond the format is
rejected by name, as is a wider one (assumption 16). -/
def wordOfContainer (nbits w : Nat) : Except Reject Word :=
  if nbits ≤ 8 then
    if w < 32 then .ok (.stp (BitVec.ofNat 5 w) 0#6) else .error .outsideFormat
  else if nbits ≤ 16 then
    if w < 512 then .ok (.evt (BitVec.ofNat 9 w)) else .error .outsideFormat
  else .error .noSuchFormat

/-- What the decoder reads from an instruction of the opcode table whose bits are `w`. -/
def decodeTableWord (nbits w : Nat) : Option Instr :=
  match wordOfContainer nbits w with
  | .error _ => none
  | .ok word =>
    match decode word with
    | .error _ => none
    | .ok i => some i

end Sys2Proof
end

