-- ==== Sys2Proof/Machine/Operands.lean ====
section
/-! DEFINITION. The operands of a sampling step: the bits of the line vector, the bits of MASK, and the lane
table that pairs them. -/

namespace Sys2Proof.Machine

/-- The bit of the line vector that carries a line (rule R41). -/
def lineIndex (p : LineName) : Nat :=
  match p with
  | .p1 => 0
  | .p2 => 1
  | .p3 => 2
  | .p4 => 3
  | .p6 => 4
  | .p9 => 5

/-- The bit of MASK that belongs to a button (rule R26). -/
def buttonBit (btn : Button) : Nat :=
  match btn with
  | .up => 0
  | .down => 1
  | .left => 2
  | .right => 3
  | .b => 4
  | .c => 5
  | .a => 6
  | .start => 7
  | .mode => 8
  | .x => 9
  | .y => 10
  | .z => 11

/-- The level of one line in a reading of the lines, true = electrically high (rules R41, R42). -/
def lineLevel (l : Line) (p : LineName) : Bool := l.getLsbD (lineIndex p)

/-- `MASK[i]`, the read of one button's bit (rule R8). -/
def readButton (m : Mask) (btn : Button) : Bool := m.getLsbD (buttonBit btn)

/-- `MASK[i] <- v`: writes one button's bit and leaves the other eleven unchanged (rule R8). -/
def writeButton (m : Mask) (btn : Button) (v : Bool) : Mask :=
  if v then m ||| (1#12 <<< buttonBit btn) else m &&& ~~~(1#12 <<< buttonBit btn)

/-- The pairs of the "directional + B/C" lane (rule R64). -/
def dirPairs : List (LineName × Button) :=
  [(.p1, .up), (.p2, .down), (.p3, .left), (.p4, .right), (.p6, .b), (.p9, .c)]

/-- The pairs of the "A/Start" lane (rule R64). -/
def asPairs : List (LineName × Button) := [(.p6, .a), (.p9, .start)]

/-- The pairs of the "extended button" lane (rule R64). -/
def extPairs : List (LineName × Button) :=
  [(.p1, .z), (.p2, .y), (.p3, .x), (.p4, .mode), (.p6, .b), (.p9, .c)]

/-- The pairs a kind of operation samples; a toggle samples none (rules R63, R64). -/
def kindPairs (k : Kind) : List (LineName × Button) :=
  match k with
  | .tgl => []
  | .dir => dirPairs
  | .as => asPairs
  | .ext => extPairs

/-- A lane-table entry of a kind, without and with the finalize mark (rule R63). -/
def laneEntry (k : Kind) (fin : Bool) : LaneEntry := { kind := k, fin := fin, pairs := kindPairs k }

/-- The lane table, entry s at place s (rules R44, R62). -/
def laneTable : List LaneEntry :=
  [laneEntry .dir false, laneEntry .tgl false, laneEntry .as false, laneEntry .tgl false,
   laneEntry .dir false, laneEntry .tgl false, laneEntry .as false, laneEntry .tgl false,
   laneEntry .dir false, laneEntry .tgl false, laneEntry .as false, laneEntry .tgl false,
   laneEntry .ext false, laneEntry .tgl false, laneEntry .as false, laneEntry .tgl false,
   laneEntry .dir true]

/-- `Lane(s)` (rule R44): the constant entry of a step; addresses 17 to 31 hold nothing (rule R69). -/
def lane (s : StepNo) : Option LaneEntry := laneTable[s.toNat]?

/-- Writes the level of each listed line to its button's bit, all from one reading (rules R42 (b), R63). -/
def samplePairs (ps : List (LineName × Button)) (l : Line) (m : Mask) : Mask :=
  ps.foldl (fun m q => writeButton m q.2 (lineLevel l q.1)) m

/-- The last step of a cycle; the advance from it wraps (rules R6, R94). -/
def lastStep : Nat := 16

/-- Is a value of STEP one of 0 to 16 (rules R20, R69 (a))? -/
def legalStep (n : StepNo) : Bool := decide (n.toNat ≤ lastStep)

end Sys2Proof.Machine
end

