-- ==== Sys2Proof/Machine/Flags.lean ====
section
/-! DEFINITION. What finalization computes from MASK: the axis bytes, the buttons byte and the indicator level. -/

namespace Sys2Proof.Machine

/-- The negative extreme of an axis, -128 (rules R67, R121). -/
def axisNeg : Byte := 0x80

/-- The positive extreme of an axis, +127 (rules R67, R121). -/
def axisPos : Byte := 0x7F

/-- The rest position of an axis, 0 (rules R67, R121). -/
def axisZero : Byte := 0x00

/-- `AxisByte(neg, pos)` (rule R121): opposing directions cancel. -/
def axisByte (neg pos : Bool) : Byte :=
  match neg, pos with
  | true, false => axisNeg
  | false, true => axisPos
  | true, true => axisZero
  | false, false => axisZero

/-- Axis y of a mask: Up is its negative direction, Down its positive one (rule R122). -/
def axisY (m : Mask) : Byte := axisByte (readButton m .up) (readButton m .down)

/-- Axis x of a mask: Left is its negative direction, Right its positive one (rule R123). -/
def axisX (m : Mask) : Byte := axisByte (readButton m .left) (readButton m .right)

/-- The number of directional bits that the buttons byte drops (rule R6, BTN_SHIFT). -/
def btnShift : Nat := 4

/-- The buttons byte of a mask, `(M >> 4)` taken as eight bits (rule R124). -/
def buttonsByte (m : Mask) : Byte := (m >>> btnShift).setWidth 8

/-- The indicator level of a mask: active when any of its twelve bits is set (rule R125). -/
def indicatorLevel (m : Mask) : Bool := m != 0

end Sys2Proof.Machine
end

