-- ==== Sys2Proof/Config.lean ====
section
/-! DEFINITION. What the block does not fix: the environment's free choice of stimulus, and the spec's open
parameters. -/

namespace Sys2Proof

/-- FREE VALUE. The stimulus word the environment presents at its n-th unscripted clock edge: any of the 512
words, under no law (rules R42 (d) and R80; U1). It has no body, so no proof can see it. Assumption 2. -/
opaque Config.freeStimulus : Nat → Stim

/-- The electrical form of reset, left open by decision D25 (rule R56). -/
structure ResetStyle where
  synchronous : Bool
  activeHigh : Bool
deriving DecidableEq, Repr, Inhabited

/-- OPEN parameter RESET_STYLE (rule R56, D25): no rule of the machine reads it. Assumption 20. -/
opaque Config.resetStyle : ResetStyle

/-- OPEN parameter TICK_HZ (rule R6, D27), nominally 100000: no rule of the machine reads it. Assumption 20. -/
opaque Config.tickHz : Nat

/-- OPEN parameter CYCLE_HZ (rule R6, D27), nominally 240: no rule of the machine reads it. Assumption 20. -/
opaque Config.cycleHz : Nat

end Sys2Proof
end

