-- ==== Sys2Proof/Machine/State.lean ====
section
/-! DEFINITION. The machine's state, why a step can stop, and the state after reset. -/

namespace Sys2Proof.Machine

/-- An item of the output trace (rule R46). -/
inductive TraceItem where
  /-- The select line was driven to a level by a toggle step (rule R90). -/
  | selWrite (v : Bool)
  /-- The activity indicator was driven to a level by a finalization (rule R125). -/
  | actWrite (v : Bool)
  /-- A report was handed to the transport: x, y, buttons (rule R126). -/
  | report (x y b : Byte)
deriving DecidableEq, Repr

/-- The state: the five elements of rule R20, and after them three fields that are the model's own. -/
structure State where
  /-- STEP, the step counter (rule R21). -/
  step : StepNo
  /-- SEL, the select level, true = HIGH (rule R22). -/
  sel : Bool
  /-- RUN, true while a cycle is in progress (rule R23). -/
  run : Bool
  /-- MASK, the button accumulator (rules R25, R26). -/
  mask : Mask
  /-- ACT, the indicator level last written, true = active (rule R24). -/
  act : Bool
  /-- MODEL'S OWN. The output trace, oldest item first (rules R28 (e), R46; assumption 4). -/
  trace : List TraceItem
  /-- MODEL'S OWN. The stimulus words the environment has presented and the block has not yet taken, next one
  first (rules R30, R70; assumption 2). -/
  stimulus : List Stim
  /-- MODEL'S OWN. How many stimulus words have been drawn as free values (assumption 2). -/
  draws : Nat
deriving DecidableEq, Repr

/-- The faults of the machine: none. "The block raises no synchronous exception, has no cause codes, records no
faulting address or instruction, and has no fault state" (rule R130); nobody raises one. -/
inductive Fault
deriving DecidableEq, Repr

/-- Why a step can be refused. -/
inductive Refusal where
  /-- The dispatch raises it for an instruction without a meaning (there is none in this model). Safe. -/
  | notModelled (mnemonic : String)
  /-- Every meaning raises it for a state whose STEP is a reserved value, 17 to 31, which the spec tells a model
  to refuse (rules R69 (a) and R130; D22). No state reachable from reset holds one (rule R32 INV1). Safe. -/
  | reservedStep
deriving DecidableEq, Repr

/-- The outcome of an instruction or a step. -/
abbrev Result := Host.Outcome State Fault Refusal

/-- The machine right after reset (rules R31 and R150): the trace is empty (rule R151), and the environment has
presented nothing yet (assumption 3). -/
def State.reset : State where
  step := 0
  sel := true
  run := false
  mask := 0
  act := false
  trace := []
  stimulus := []
  draws := 0

end Sys2Proof.Machine
end

