-- ==== Sys2Proof/Machine/Ops.lean ====
section
/-! DEFINITION. The named operations over the state that the instructions share.

The block takes no exception and returns from none (rules R130, R137, R138), so there is no such operation here;
what stands nearest, the finalization inside the TICK at STEP = 16, is `finalize`. It has no memory either (rule R40):
what an instruction stores to is MASK and the output trace. -/

namespace Sys2Proof.Machine

/-- `STEP <- n`. -/
def setStep (n : StepNo) (s : State) : State := { s with step := n }

/-- `SEL <- v`. -/
def setSel (v : Bool) (s : State) : State := { s with sel := v }

/-- `RUN <- v`. -/
def setRun (v : Bool) (s : State) : State := { s with run := v }

/-- `MASK <- m`. -/
def setMask (m : Mask) (s : State) : State := { s with mask := m }

/-- `ACT <- v`. -/
def setAct (v : Bool) (s : State) : State := { s with act := v }

/-- `emit i`: appends an item to the output trace (rule R46). -/
def emit (i : TraceItem) (s : State) : State := { s with trace := s.trace ++ [i] }

/-- Goes on with a state whose STEP is 0 to 16, and refuses one that holds a reserved value (rules R69 (a), R130;
D22: a model "refuses (gives no step from) a state holding one"). -/
def onLegalStep (s : State) (f : State → Result) : Result :=
  if legalStep s.step then f s else .refused .reservedStep

/-- Two transitions in order: the second runs on the next state the first answers. -/
def andThen (r : Result) (f : State → Result) : Result :=
  match r with
  | .next s => f s
  | .fault e => .fault e
  | .refused e => .refused e

/-- TGL (rule R90): complements SEL and emits the new level. -/
def toggle (s : State) : State := emit (.selWrite (!s.sel)) (setSel (!s.sel) s)

/-- DIR, AS or EXT (rules R91 to R93): writes each sampled line's level to its button's bit of MASK. -/
def sample (k : Kind) (l : Line) (s : State) : State := setMask (samplePairs (kindPairs k) l s.mask) s

/-- The return to idle (rule R127); MASK is kept and no SelWrite is emitted. -/
def restart (s : State) : State := setRun false (setSel true (setStep 0 s))

/-- FIN (rule R120): the indicator, then the report, then the return to idle. -/
def finalize (s : State) : State :=
  let y := axisY s.mask
  let x := axisX s.mask
  let b := buttonsByte s.mask
  let v := indicatorLevel s.mask
  restart (emit (.report x y b) (emit (.actWrite v) (setAct v s)))

/-- ADV (rule R94): the next step, or finalization where STEP + 1 exceeds 16. -/
def advance (s : State) : State :=
  let n := s.step + 1
  if n.toNat > lastStep then finalize s else setStep n s

/-- RESET on the registers (rule R81); nothing is emitted, so the trace stays. -/
def resetRegisters (s : State) : State :=
  setAct false (setMask 0 (setRun false (setSel true (setStep 0 s))))

/-- BEGIN (rule R82): arms a cycle if the block is idle, does nothing otherwise. -/
def beginCycle (s : State) : State :=
  if s.run then s else setRun true (setSel true (setStep 0 s))

/-- The stimulus word presented at this clock edge and the state in which the block takes it: the next queued
word, or a free word of the environment where none is queued (rules R42 (d), R80; assumption 2). -/
def takeStimulus (s : State) : Stim × State :=
  match s.stimulus with
  | sw :: rest => (sw, { s with stimulus := rest })
  | [] => (Config.freeStimulus s.draws, { s with draws := s.draws + 1 })

/-- The stimulus word of a TICK with every line low, `TCK 0x00` (rule R71). -/
def tickWord : Stim := 0x040

/-- Makes an instruction the next that runs: a stimulus word (two bytes) is presented at the next edge; a step
operation (one byte) is made the current step of a running cycle and a TICK is presented (assumption 17). -/
def placeWord (nbits w : Nat) (s : State) : State :=
  if nbits ≤ 8 then
    { s with step := BitVec.ofNat 5 w, run := true, stimulus := tickWord :: s.stimulus }
  else
    { s with stimulus := BitVec.ofNat 9 w :: s.stimulus }

end Sys2Proof.Machine
end

