-- ==== Sys2Proof/Machine/StepOps.lean ====
section
/-! DEFINITION. The seventeen step operations of a TICK, one meaning per value of STEP (rules R95 to R111):
an operation of one kind (rules R90 to R93), then the advance (rule R94).

That the operation is the one STEP selects, and that RUN = 1, is settled before a meaning is called
(`performStep`, as a processor's fetch settles which instruction runs): a meaning does not test it again
(assumption 6). -/

namespace Sys2Proof.Machine

/-- S0.DIR, rule R95: DIR (rule R91), then ADV (rule R94). -/
def execS0Dir (l : Line) (s : State) : Result :=
  onLegalStep s fun s => .next (advance (sample .dir l s))

/-- S1.TGL, rule R96: TGL (rule R90), then ADV (rule R94). -/
def execS1Tgl (s : State) : Result :=
  onLegalStep s fun s => .next (advance (toggle s))

/-- S2.AS, rule R97: AS (rule R92), then ADV (rule R94). -/
def execS2As (l : Line) (s : State) : Result :=
  onLegalStep s fun s => .next (advance (sample .as l s))

/-- S3.TGL, rule R98: TGL (rule R90), then ADV (rule R94). -/
def execS3Tgl (s : State) : Result :=
  onLegalStep s fun s => .next (advance (toggle s))

/-- S4.DIR, rule R99: DIR (rule R91), then ADV (rule R94). -/
def execS4Dir (l : Line) (s : State) : Result :=
  onLegalStep s fun s => .next (advance (sample .dir l s))

/-- S5.TGL, rule R100: TGL (rule R90), then ADV (rule R94). -/
def execS5Tgl (s : State) : Result :=
  onLegalStep s fun s => .next (advance (toggle s))

/-- S6.AS, rule R101: AS (rule R92), then ADV (rule R94). -/
def execS6As (l : Line) (s : State) : Result :=
  onLegalStep s fun s => .next (advance (sample .as l s))

/-- S7.TGL, rule R102: TGL (rule R90), then ADV (rule R94). -/
def execS7Tgl (s : State) : Result :=
  onLegalStep s fun s => .next (advance (toggle s))

/-- S8.DIR, rule R103: DIR (rule R91), then ADV (rule R94). -/
def execS8Dir (l : Line) (s : State) : Result :=
  onLegalStep s fun s => .next (advance (sample .dir l s))

/-- S9.TGL, rule R104: TGL (rule R90), then ADV (rule R94). -/
def execS9Tgl (s : State) : Result :=
  onLegalStep s fun s => .next (advance (toggle s))

/-- S10.AS, rule R105: AS (rule R92), then ADV (rule R94). -/
def execS10As (l : Line) (s : State) : Result :=
  onLegalStep s fun s => .next (advance (sample .as l s))

/-- S11.TGL, rule R106: TGL (rule R90), then ADV (rule R94). -/
def execS11Tgl (s : State) : Result :=
  onLegalStep s fun s => .next (advance (toggle s))

/-- S12.EXT, rule R107: EXT (rule R93), then ADV (rule R94). -/
def execS12Ext (l : Line) (s : State) : Result :=
  onLegalStep s fun s => .next (advance (sample .ext l s))

/-- S13.TGL, rule R108: TGL (rule R90), then ADV (rule R94). -/
def execS13Tgl (s : State) : Result :=
  onLegalStep s fun s => .next (advance (toggle s))

/-- S14.AS, rule R109: AS (rule R92), then ADV (rule R94). -/
def execS14As (l : Line) (s : State) : Result :=
  onLegalStep s fun s => .next (advance (sample .as l s))

/-- S15.TGL, rule R110: TGL (rule R90), then ADV (rule R94). -/
def execS15Tgl (s : State) : Result :=
  onLegalStep s fun s => .next (advance (toggle s))

/-- S16.DIRFIN, rule R111: DIR (rule R91), then ADV (rule R94); at STEP = 16 the advance is the wrap with
finalization (rules R120 to R127), which sees the MASK just sampled. -/
def execS16Dirfin (l : Line) (s : State) : Result :=
  onLegalStep s fun s => .next (advance (sample .dir l s))

end Sys2Proof.Machine
end

