-- ==== Sys2Proof/Machine/Events.lean ====
section
/-! DEFINITION. The five events of the EVT format (rules R81 to R86). -/

namespace Sys2Proof.Machine

/-- The step operation of the current STEP (rule R83, step map of rule R62); a reserved value of STEP has none
(rule R69 (a)). -/
def performStep (l : Line) (s : State) : Result :=
  match s.step.toNat with
  | 0 => execS0Dir l s
  | 1 => execS1Tgl s
  | 2 => execS2As l s
  | 3 => execS3Tgl s
  | 4 => execS4Dir l s
  | 5 => execS5Tgl s
  | 6 => execS6As l s
  | 7 => execS7Tgl s
  | 8 => execS8Dir l s
  | 9 => execS9Tgl s
  | 10 => execS10As l s
  | 11 => execS11Tgl s
  | 12 => execS12Ext l s
  | 13 => execS13Tgl s
  | 14 => execS14As l s
  | 15 => execS15Tgl s
  | 16 => execS16Dirfin l s
  | _ => .refused .reservedStep

/-- The event TICK(L): the step operation of STEP while active (rule R83), nothing while idle (rule R84). -/
def tickEvent (l : Line) (s : State) : Result :=
  if s.run then performStep l s else .next s

/-- RST, rule R81. -/
def execRst (s : State) : Result :=
  onLegalStep s fun s => .next (resetRegisters s)

/-- NOP, rule R85: the absence of an event; the state holds. -/
def execNop (s : State) : Result :=
  onLegalStep s fun s => .next s

/-- TCK, rules R83 and R84. -/
def execTck (l : Line) (s : State) : Result :=
  onLegalStep s fun s => tickEvent l s

/-- BEG, rule R82. -/
def execBeg (s : State) : Result :=
  onLegalStep s fun s => .next (beginCycle s)

/-- TB, rule R86: TICK(L) first, then BEGIN on the state it leaves, at one clock edge. -/
def execTb (l : Line) (s : State) : Result :=
  onLegalStep s fun s => andThen (tickEvent l s) fun t => .next (beginCycle t)

end Sys2Proof.Machine
end

