-- ==== Sys2Proof/Machine/Dispatch.lean ====
section
/-! DEFINITION. The dispatch: one arm per constructor of `Instr`, each one call of its meaning. -/

namespace Sys2Proof.Machine

def exec (i : Instr) (s : State) : Host.Outcome State Fault Refusal :=
  match i with
  | .s0Dir l => Sys2Proof.Machine.execS0Dir l s
  | .s1Tgl => Sys2Proof.Machine.execS1Tgl s
  | .s2As l => Sys2Proof.Machine.execS2As l s
  | .s3Tgl => Sys2Proof.Machine.execS3Tgl s
  | .s4Dir l => Sys2Proof.Machine.execS4Dir l s
  | .s5Tgl => Sys2Proof.Machine.execS5Tgl s
  | .s6As l => Sys2Proof.Machine.execS6As l s
  | .s7Tgl => Sys2Proof.Machine.execS7Tgl s
  | .s8Dir l => Sys2Proof.Machine.execS8Dir l s
  | .s9Tgl => Sys2Proof.Machine.execS9Tgl s
  | .s10As l => Sys2Proof.Machine.execS10As l s
  | .s11Tgl => Sys2Proof.Machine.execS11Tgl s
  | .s12Ext l => Sys2Proof.Machine.execS12Ext l s
  | .s13Tgl => Sys2Proof.Machine.execS13Tgl s
  | .s14As l => Sys2Proof.Machine.execS14As l s
  | .s15Tgl => Sys2Proof.Machine.execS15Tgl s
  | .s16Dirfin l => Sys2Proof.Machine.execS16Dirfin l s
  | .rst => Sys2Proof.Machine.execRst s
  | .nop => Sys2Proof.Machine.execNop s
  | .tck l => Sys2Proof.Machine.execTck l s
  | .beg => Sys2Proof.Machine.execBeg s
  | .tb l => Sys2Proof.Machine.execTb l s

end Sys2Proof.Machine
end

