-- ==== Sys2Proof/Machine/Step.lean ====
section
/-! DEFINITION. One step of the machine: the events of one stimulus word, at one clock edge (rules R56, R71, R80). -/

namespace Sys2Proof.Machine

/-- Takes the stimulus word presented at this edge, decodes it (rule R71; every word is an instruction) and
performs it. -/
def step (s : State) : Host.Outcome State Fault Refusal :=
  exec (decodeEvt (takeStimulus s).1) (takeStimulus s).2

/-- The state with an instruction of the opcode table placed where the next step takes it from. -/
def State.withFetchWord (s : State) (nbits w : Nat) : State := placeWord nbits w s

end Sys2Proof.Machine
end

