-- ==== Sys2Proof/Machine/Ports.lean ====
section
/-! DEFINITION. The output ports of the clocked embodiment (rules R45, R56). -/

namespace Sys2Proof.Machine

/-- The output ports (rule R56). -/
structure Outputs where
  sel : Bool
  tickEn : Bool
  act : Bool
  rptValid : Bool
  rptX : Byte
  rptY : Byte
  rptB : Byte
deriving DecidableEq, Repr

/-- Is a finalizing TICK presented: a TICK, not overridden by rst, while active at the last step (rules R56, R71)? -/
def finalizingTick (sw : Stim) (s : State) : Bool :=
  !sw.getLsbD 8 && sw.getLsbD 6 && s.run && decide (s.step.toNat = lastStep)

/-- The mask the report outputs are a function of: the current MASK with the presented lines sampled through the
DIR lane, which is MASK' when a finalizing TICK is presented (rule R56). -/
def presentedMask (sw : Stim) (s : State) : Mask := samplePairs dirPairs (stimLine sw) s.mask

/-- The levels on the output ports in a clock period in which `sw` is presented (rules R45, R56): three follow a
state element, the report outputs are Mealy outputs (assumption 19). -/
def outputs (sw : Stim) (s : State) : Outputs where
  sel := s.sel
  tickEn := s.run
  act := s.act
  rptValid := finalizingTick sw s
  rptX := axisX (presentedMask sw s)
  rptY := axisY (presentedMask sw s)
  rptB := buttonsByte (presentedMask sw s)

end Sys2Proof.Machine
end

