-- ==== Sys2Proof/Machine/Program.lean ====
section
/-! DEFINITION. Event sequences and the pseudo-operations of rule R74. -/

namespace Sys2Proof.Machine

/-- The behaviour of a sequence: each instruction runs on the state the one before it leaves (rule R80). -/
def runProgram (p : List Instr) (s : State) : Result :=
  match p with
  | [] => .next s
  | i :: p => andThen (exec i s) (runProgram p)

/-- `CYCLE l0 l1 ... l16` (rule R74). -/
def cycle (ls : List Line) : List Instr := .beg :: ls.map .tck

/-- `CYCLEC c` (rule R74). -/
def cycleC (c : Line) : List Instr := cycle (List.replicate 17 c)

/-- `PadLines(M, s, g)` (rule R74): the lane table read backwards; a test device, no controller (D26). -/
def padLines (m : Mask) (s : Nat) (g : Line) : Line :=
  if s = 12 then
    m.extractLsb' 4 2 ++ m.extractLsb' 8 1 ++ m.extractLsb' 9 1 ++ m.extractLsb' 10 1 ++ m.extractLsb' 11 1
  else if s % 4 = 2 then m.extractLsb' 6 2 ++ g.extractLsb' 0 4
  else if s % 4 = 0 then m.extractLsb' 0 6
  else g

/-- `PAD M g` (rule R74). -/
def pad (m : Mask) (g : Line) : List Instr := cycle ((List.range 17).map fun s => padLines m s g)

end Sys2Proof.Machine
end

