-- ==== Sys2Proof/Machine/Reference.lean ====
section
/-! DEFINITION. The step function of the event level as rule R80 writes it in one block of pseudocode: a second
description of the machine, with bit slices where the meanings go button by button. The meanings are the model; that
they refine this function is an obligation. -/

namespace Sys2Proof.Machine

/-- The input events (rules R5, R80). -/
inductive Event where
  | reset
  | begin
  | tick (l : Line)
deriving DecidableEq, Repr

/-- The events a stimulus instruction stands for, in order (rule R71); a step operation is no event. -/
def eventsOf (i : Instr) : List Event :=
  match i with
  | .s0Dir _ | .s1Tgl | .s2As _ | .s3Tgl | .s4Dir _ | .s5Tgl | .s6As _ | .s7Tgl | .s8Dir _ | .s9Tgl
  | .s10As _ | .s11Tgl | .s12Ext _ | .s13Tgl | .s14As _ | .s15Tgl | .s16Dirfin _ => []
  | .rst => [.reset]
  | .nop => []
  | .tck l => [.tick l]
  | .beg => [.begin]
  | .tb l => [.tick l, .begin]

/-- MASK after the sampling of a kind, in the vector form of rule R68. -/
def refSample (k : Option Kind) (l : Line) (m : Mask) : Mask :=
  match k with
  | some .dir => m.extractLsb' 6 6 ++ l
  | some .as => m.extractLsb' 8 4 ++ l.extractLsb' 4 2 ++ m.extractLsb' 0 6
  | some .ext =>
    l.extractLsb' 0 1 ++ l.extractLsb' 1 1 ++ l.extractLsb' 2 1 ++ l.extractLsb' 3 1 ++
      m.extractLsb' 6 2 ++ l.extractLsb' 4 2 ++ m.extractLsb' 0 4
  | some .tgl | none => m

/-- An axis byte as the two conditions of rule R121. -/
def refAxis (neg pos : Bool) : Byte := if neg && !pos then 0x80 else if pos && !neg then 0x7F else 0x00

/-- An accepted TICK (rule R80): the state after it and the items it emits. -/
def refTick (l : Line) (s : State) : State × List TraceItem :=
  let kind := (lane s.step).map LaneEntry.kind
  let sel' := if kind = some .tgl then !s.sel else s.sel
  let items := if kind = some .tgl then [TraceItem.selWrite sel'] else []
  let m := refSample kind l s.mask
  if s.step.toNat + 1 > 16 then
    ({ s with step := 0, sel := true, run := false, mask := m, act := decide (m ≠ 0) },
      items ++ [.actWrite (decide (m ≠ 0)),
        .report (refAxis (m.getLsbD 2) (m.getLsbD 3)) (refAxis (m.getLsbD 0) (m.getLsbD 1)) (m.extractLsb' 4 8)])
  else
    ({ s with step := s.step + 1, sel := sel', mask := m }, items)

/-- `step(S, e)` of rule R80, without the trace kept in the state. -/
def refEvent (e : Event) (s : State) : State × List TraceItem :=
  match e with
  | .reset => ({ s with step := 0, sel := true, run := false, mask := 0, act := false }, [])
  | .begin => (if s.run then s else { s with step := 0, sel := true, run := true }, [])
  | .tick l => if s.run then refTick l s else (s, [])

/-- The behaviour of an event sequence: the left fold of the step function over it, with the traces concatenated
(rule R80). -/
def refRun (es : List Event) (s : State) : State × List TraceItem :=
  match es with
  | [] => (s, [])
  | e :: es => ((refRun es (refEvent e s).1).1, (refEvent e s).2 ++ (refRun es (refEvent e s).1).2)

/-- The state a behaviour leaves, with the items it emits appended to the trace so far. -/
def withItems (r : State × List TraceItem) : State := { r.1 with trace := r.1.trace ++ r.2 }

end Sys2Proof.Machine
end

