-- ==== Sys2Proof/Machine/Run.lean ====
section
/-! DEFINITION. Several steps of the machine. -/

namespace Sys2Proof.Machine

/-- `n` steps, one clock edge after another (rule R51 (a)); stops at a refusal. -/
def runSteps (n : Nat) (s : State) : Result :=
  match n with
  | 0 => .next s
  | n + 1 => andThen (step s) (runSteps n)

end Sys2Proof.Machine
end

