-- ==== Sys2Proof/WellFormed.lean ====
section
/-! DEFINITION. The checks on syntax: a lane-table entry, an event program and the arguments of a CYCLE.

Every term of `Instr` is well-formed by its type: the one operand there is, a line vector, is exactly six bits
wide (rule R65), so no further check on a single instruction exists. -/

namespace Sys2Proof

/-- A lane-table entry has the form of rule R63: a toggle samples nothing and does not finalize; a sampling entry
names at least one pair, no line twice and no button twice. -/
def LaneEntry.wf (e : LaneEntry) : Bool :=
  match e.kind with
  | .tgl => e.pairs.isEmpty && !e.fin
  | .dir | .as | .ext =>
    !e.pairs.isEmpty && decide (e.pairs.map Prod.fst).Nodup && decide (e.pairs.map Prod.snd).Nodup

/-- Is the instruction an event of the EVT format (rule R71), rather than a step operation? -/
def Instr.isEvent (i : Instr) : Bool :=
  match i with
  | .s0Dir _ | .s1Tgl | .s2As _ | .s3Tgl | .s4Dir _ | .s5Tgl | .s6As _ | .s7Tgl | .s8Dir _ | .s9Tgl
  | .s10As _ | .s11Tgl | .s12Ext _ | .s13Tgl | .s14As _ | .s15Tgl | .s16Dirfin _ => false
  | .rst | .nop | .tck _ | .beg | .tb _ => true

/-- An event program holds events only (rule R73): the step operations are what a TICK performs, not lines of a
program. -/
def eventProgramWf (p : List Instr) : Bool := p.all Instr.isEvent

/-- CYCLE takes one line vector per step, seventeen in all (rule R74). -/
def cycleArgsWf (ls : List Line) : Bool := ls.length == 17

end Sys2Proof
end

