-- ==== Sys2Proof/Safety.lean ====
section
/-! DEFINITION. What counts as a good state and a good environment, in the terms the statements use. -/

namespace Sys2Proof.Machine

/-- STEP holds a legal value (rule R20); the step function is total on these states (rule R80). -/
abbrev Legal (s : State) : Prop := s.step.toNat ≤ 16

/-- INV1 of rule R32. -/
abbrev Inv1 (s : State) : Prop := s.step.toNat ≤ 16

/-- INV2 of rule R32. -/
abbrev Inv2 (s : State) : Prop := s.run = false → s.step = 0 ∧ s.sel = true

/-- INV3 of rule R32. -/
abbrev Inv3 (s : State) : Prop := s.sel = true ↔ s.step.toNat % 4 = 0 ∨ s.step.toNat % 4 = 1

/-- INV4 of rule R32. -/
abbrev Inv4 (s : State) : Prop := s.run = false → s.act = decide (s.mask ≠ 0)

/-- The invariants of the reachable states (rule R32). -/
abbrev Invariant (s : State) : Prop := Inv1 s ∧ Inv2 s ∧ Inv3 s ∧ Inv4 s

/-- The instruction the next step runs. -/
def presented (s : State) : Instr := decodeEvt (takeStimulus s).1

/-- Does the instruction contain a TICK (rule R71)? -/
def hasTick (i : Instr) : Bool :=
  match i with
  | .s0Dir _ | .s1Tgl | .s2As _ | .s3Tgl | .s4Dir _ | .s5Tgl | .s6As _ | .s7Tgl | .s8Dir _ | .s9Tgl
  | .s10As _ | .s11Tgl | .s12Ext _ | .s13Tgl | .s14As _ | .s15Tgl | .s16Dirfin _ => false
  | .tck _ | .tb _ => true
  | .rst | .nop | .beg => false

/-- Does the instruction contain a BEGIN (rule R71)? -/
def hasBegin (i : Instr) : Bool :=
  match i with
  | .s0Dir _ | .s1Tgl | .s2As _ | .s3Tgl | .s4Dir _ | .s5Tgl | .s6As _ | .s7Tgl | .s8Dir _ | .s9Tgl
  | .s10As _ | .s11Tgl | .s12Ext _ | .s13Tgl | .s14As _ | .s15Tgl | .s16Dirfin _ => false
  | .beg | .tb _ => true
  | .rst | .nop | .tck _ => false

/-- PREMISE on the environment, not enforced: no TICK is presented while the tick enable is low (rules R84, R154
(3)). -/
abbrev NoIdleTick (s : State) : Prop := hasTick (presented s) = true → s.run = true

/-- PREMISE on the environment, not enforced: no RESET is presented during a cycle (rule R157). -/
abbrev NoMidCycleReset (s : State) : Prop := presented s = .rst → s.run = false

/-- PREMISE on the environment, not enforced: no BEGIN is lost, that is, none is presented while the block stays
active (rule R159). -/
abbrev NoLostBegin (s : State) : Prop :=
  hasBegin (presented s) = true →
    s.run = false ∨ (s.step.toNat = 16 ∧ hasTick (presented s) = true)

/-- The steps at which a TICK writes a button's bit: the row "written at steps" of rule R26. -/
def writtenAt (btn : Button) : List Nat :=
  match btn with
  | .up | .down | .left | .right => [0, 4, 8, 16]
  | .b | .c => [0, 4, 8, 12, 16]
  | .a | .start => [2, 6, 10, 14]
  | .mode | .x | .y | .z => [12]

/-- An axis byte the finalizer can produce (rule R67). -/
abbrev AxisConstant (v : Byte) : Prop := v = 0x80 ∨ v = 0x7F ∨ v = 0x00

/-- Every report handed over so far carries axis bytes of rule R67. -/
abbrev ReportsHaveAxisConstants (tr : List TraceItem) : Prop :=
  ∀ x y b, TraceItem.report x y b ∈ tr → AxisConstant x ∧ AxisConstant y

end Sys2Proof.Machine
end

