-- ==== Sys2Proof/Certificates/Slice0/Obligations.lean ====
section
/-! DEFINITION. The statements for the provers. A state is written out by what it changes of `s`, so an equation
`exec i s = .next { s with … }` is also the frame: every field it does not name, the model's own among them, is
unchanged. The block has no memory (rule R40). -/

open Sys2Proof Sys2Proof.Machine

/-! ### Reset and the invariants -/

/-- Rules R31, R150 and R151, what reset leaves: STEP = 0 and SEL = HIGH are the source's; RUN = 0, MASK = 0 and
ACT = 0 are the spec's own choice (decisions D10, D11, D12; assumption 7). -/
def Obligations.ResetHoldsTheSpecsValues : Prop :=
  State.reset.step = 0 ∧ State.reset.sel = true ∧ State.reset.run = false ∧ State.reset.mask = 0 ∧
    State.reset.act = false ∧ State.reset.trace = [] ∧
    ∀ sw, (outputs sw State.reset).sel = true ∧ (outputs sw State.reset).tickEn = false ∧
      (outputs sw State.reset).act = false ∧ (outputs sw State.reset).rptValid = false

/-- INV1 to INV4 of rule R32 hold in the reset state. The spec marks R32 as derived; INV4 rests on decisions D10
and D11. -/
def Obligations.InvariantHoldsAtReset : Prop := Invariant State.reset

/-- INV1 to INV4 of rule R32 are kept by every step, from every state that has them, whatever the environment
presents. The spec marks R32 as derived. -/
def Obligations.StepKeepsTheInvariant : Prop :=
  ∀ s t : State, Invariant s → step s = .next t → Invariant t

/-! ### Encodings -/

/-- Decode and encode agree (rules R61, R62, R70, R71). The bit layouts are the spec's (decisions D7, D8, D16). -/
def Obligations.DecodeOfEncodeIsTheInstruction : Prop := ∀ i : Instr, decode (encode i) = .ok i

/-- Rule R71 (decisions D13, D16): every stimulus word is put together from its four fields, and its three strobes
alone say which instruction it is. -/
def Obligations.StimulusStrobesSelectTheEvent : Prop :=
  (∀ sw : Stim, stimOf (sw.getLsbD 8) (sw.getLsbD 7) (sw.getLsbD 6) (sw.extractLsb' 0 6) = sw) ∧
    ∀ (b7 b6 : Bool) (l : Line),
      decodeEvt (stimOf true b7 b6 l) = .rst ∧ decodeEvt (stimOf false false false l) = .nop ∧
        decodeEvt (stimOf false false true l) = .tck l ∧ decodeEvt (stimOf false true false l) = .beg ∧
        decodeEvt (stimOf false true true l) = .tb l

/-- Rules R61, R62 and R69 (a) (decisions D7, D22): each value 0 to 16 of STEP is a step operation that encodes back
to that value, with the operand where it samples (even) and none where it toggles (odd); 17 to 31 are rejected by
name. -/
def Obligations.StepValuesSelectTheStepOperation : Prop :=
  ∀ (st : StepNo) (l : Line),
    (st.toNat ≤ 16 → ∃ i, decode (.stp st l) = .ok i ∧ i.isEvent = false ∧
      encode i = .stp st (if st.toNat % 2 = 0 then l else 0)) ∧
    (16 < st.toNat → decode (.stp st l) = .error (.reservedStep st))

/-- Some words of the table, their bits written out from rules R62 and R71, decode to their instructions. The
containers are the model's choice, not the spec's (DESIGN CHOICE, assumption 16): 8 bits are read as a value of STEP
with the LINE operand zero (hence S0.DIR with L = 0), 16 bits as a stimulus word. -/
def Obligations.TableWordsDecodeToTheirInstructions : Prop :=
  decodeTableWord 8 0b00000 = some (.s0Dir 0) ∧ decodeTableWord 8 0b00001 = some .s1Tgl ∧
    decodeTableWord 8 0b01010 = some (.s10As 0) ∧ decodeTableWord 8 0b01100 = some (.s12Ext 0) ∧
    decodeTableWord 8 0b10000 = some (.s16Dirfin 0) ∧ decodeTableWord 8 0b10001 = none ∧
    decodeTableWord 16 0b100000000 = some .rst ∧ decodeTableWord 16 0b001101011 = some (.tck 0x2B) ∧
    decodeTableWord 16 0b010000000 = some .beg ∧ decodeTableWord 16 0b011000100 = some (.tb 0x04)

/-! ### A step -/

/-- A step takes the stimulus word queued first, decodes it and executes it on the state without that word
(rules R56, R71, R80; the queue is the model's, assumption 2). -/
def Obligations.StepExecutesTheQueuedWord : Prop :=
  ∀ (s : State) (sw : Stim) (rest : List Stim) (i : Instr),
    s.stimulus = sw :: rest → decode (.evt sw) = .ok i → step s = exec i { s with stimulus := rest }

/-- Where no word is queued, the environment's word is free (rule R42 (d); U1), and the step executes it whatever it
is. The free value is the model's (assumption 2): this holds for every one of the 512 words. -/
def Obligations.StepExecutesAFreeWordWhenNoneIsQueued : Prop :=
  ∀ s : State, s.stimulus = [] →
    step s = exec (decodeEvt (Config.freeStimulus s.draws)) { s with draws := s.draws + 1 }

/-- An instruction of the table that `withFetchWord` places is what the next step executes: a stimulus word on the
state as it is, a step operation on the state with RUN = 1 and STEP at its value. The containers and the way of
placing are the model's choice (DESIGN CHOICE, assumptions 16 and 17). -/
def Obligations.PlacedWordIsExecutedNext : Prop :=
  ∀ (s : State) (nbits w : Nat) (i : Instr), decodeTableWord nbits w = some i →
    (nbits ≤ 8 → step (s.withFetchWord nbits w) = exec i { s with step := BitVec.ofNat 5 w, run := true }) ∧
    (8 < nbits → step (s.withFetchWord nbits w) = exec i s)

/-- Rule R130: no step ends in a fault, every event on every reachable state (a state with the invariants of rule
R32) has a next state, and the only refusal is of the STEP values 17 to 31. -/
def Obligations.OnlyReservedStepsAreRefused : Prop :=
  ∀ s : State, (∀ f, step s ≠ .fault f) ∧
    (∀ r, step s = .refused r ↔ 16 < s.step.toNat ∧ r = .reservedStep) ∧
    (Invariant s → ∃ t, step s = .next t)

/-- Each instruction has a next state on every state with a legal STEP, and is refused by name on every other. For the
five events this is rules R69 (a) and R80 (decision D22, assumption 5). For the seventeen step operations it holds also
where RUN = 0 or STEP is another legal value: that is the model's choice (DESIGN CHOICE, assumption 6), since the spec
gives them a meaning only inside an accepted TICK at their own STEP, and a step of the machine calls them nowhere
else. -/
def Obligations.ExecCompletesExactlyOnLegalSteps : Prop :=
  ∀ (i : Instr) (s : State),
    (s.step.toNat ≤ 16 → ∃ t, exec i s = .next t ∧ t.step.toNat ≤ 16) ∧
    (16 < s.step.toNat → exec i s = .refused .reservedStep)

/-- The spec's block of pseudocode for the step function (rule R80, decision D1, with the event order of rule R71,
decision D13): a sequence of events runs to the state and the trace its left fold gives. -/
def Obligations.ProgramsRefineTheReferenceStepFunction : Prop :=
  ∀ (p : List Instr) (s : State), eventProgramWf p = true → Legal s →
    runProgram p s = .next (withItems (refRun (p.flatMap eventsOf) s))

/-- Queued stimulus words run as the program they decode to, one a step (rules R71, R80; the queue is the model's,
assumption 2). -/
def Obligations.QueuedWordsRunAsTheirProgram : Prop :=
  ∀ (ws : List Stim) (rest : List Stim) (s : State),
    runSteps ws.length { s with stimulus := ws ++ rest } =
      runProgram (ws.map decodeEvt) { s with stimulus := rest }

/-! ### The step operations -/

/-- The eight rules of the odd steps, R96 to R110: SEL is complemented, the new level is emitted, STEP advances (the
toggle of rule R90, then the advance of rule R94); nothing else changes and L is ignored. In every reachable state
the level becomes LOW at steps 1, 5, 9, 13 and HIGH at steps 3, 7, 11, 15. -/
def Obligations.ToggleStepsComplementTheSelectLine : Prop :=
  ∀ (s : State) (l : Line), s.run = true →
    (s.step = 1 → decode (.stp s.step l) = .ok .s1Tgl ∧
      exec .s1Tgl s = .next { s with step := 2, sel := !s.sel, trace := s.trace ++ [.selWrite !s.sel] }) ∧
    (s.step = 3 → decode (.stp s.step l) = .ok .s3Tgl ∧
      exec .s3Tgl s = .next { s with step := 4, sel := !s.sel, trace := s.trace ++ [.selWrite !s.sel] }) ∧
    (s.step = 5 → decode (.stp s.step l) = .ok .s5Tgl ∧
      exec .s5Tgl s = .next { s with step := 6, sel := !s.sel, trace := s.trace ++ [.selWrite !s.sel] }) ∧
    (s.step = 7 → decode (.stp s.step l) = .ok .s7Tgl ∧
      exec .s7Tgl s = .next { s with step := 8, sel := !s.sel, trace := s.trace ++ [.selWrite !s.sel] }) ∧
    (s.step = 9 → decode (.stp s.step l) = .ok .s9Tgl ∧
      exec .s9Tgl s = .next { s with step := 10, sel := !s.sel, trace := s.trace ++ [.selWrite !s.sel] }) ∧
    (s.step = 11 → decode (.stp s.step l) = .ok .s11Tgl ∧
      exec .s11Tgl s = .next { s with step := 12, sel := !s.sel, trace := s.trace ++ [.selWrite !s.sel] }) ∧
    (s.step = 13 → decode (.stp s.step l) = .ok .s13Tgl ∧
      exec .s13Tgl s = .next { s with step := 14, sel := !s.sel, trace := s.trace ++ [.selWrite !s.sel] }) ∧
    (s.step = 15 → decode (.stp s.step l) = .ok .s15Tgl ∧
      exec .s15Tgl s = .next { s with step := 16, sel := !s.sel, trace := s.trace ++ [.selWrite !s.sel] }) ∧
    (s.step.toNat % 2 = 1 → s.step.toNat ≤ 15 →
      exec (.tck l) s =
        .next { s with step := s.step + 1, sel := !s.sel, trace := s.trace ++ [.selWrite !s.sel] }) ∧
    (Invariant s → s.step.toNat % 2 = 1 → ((!s.sel) = true ↔ s.step.toNat % 4 = 3))

/-- Rules R95, R99 and R103 (and R91 for these steps): MASK[5:0] takes the six lines, bits 11 to 6 stay, STEP
advances, and nothing else changes; in every reachable state the select line is HIGH. -/
def Obligations.DirectionStepsSampleTheLowSixBits : Prop :=
  ∀ (s : State) (l : Line), s.run = true →
    (s.step = 0 → decode (.stp s.step l) = .ok (.s0Dir l) ∧
      exec (.s0Dir l) s = .next { s with step := 1, mask := s.mask.extractLsb' 6 6 ++ l }) ∧
    (s.step = 4 → decode (.stp s.step l) = .ok (.s4Dir l) ∧
      exec (.s4Dir l) s = .next { s with step := 5, mask := s.mask.extractLsb' 6 6 ++ l }) ∧
    (s.step = 8 → decode (.stp s.step l) = .ok (.s8Dir l) ∧
      exec (.s8Dir l) s = .next { s with step := 9, mask := s.mask.extractLsb' 6 6 ++ l }) ∧
    (s.step = 0 ∨ s.step = 4 ∨ s.step = 8 →
      exec (.tck l) s = .next { s with step := s.step + 1, mask := s.mask.extractLsb' 6 6 ++ l } ∧
        (Invariant s → s.sel = true))

/-- Rule R92 and the rules of steps 2, 6, 10, 14: A takes P6 and Start takes P9, the other ten bits of MASK stay
whatever P1 to P4 carry, STEP advances, and nothing else changes; in every reachable state the select line is
LOW. -/
def Obligations.StartStepsSampleOnlyTheirTwoBits : Prop :=
  ∀ (s : State) (l : Line), s.run = true →
    (s.step = 2 → decode (.stp s.step l) = .ok (.s2As l) ∧
      exec (.s2As l) s = .next { s with
        step := 3, mask := s.mask.extractLsb' 8 4 ++ l.extractLsb' 4 2 ++ s.mask.extractLsb' 0 6 }) ∧
    (s.step = 6 → decode (.stp s.step l) = .ok (.s6As l) ∧
      exec (.s6As l) s = .next { s with
        step := 7, mask := s.mask.extractLsb' 8 4 ++ l.extractLsb' 4 2 ++ s.mask.extractLsb' 0 6 }) ∧
    (s.step = 10 → decode (.stp s.step l) = .ok (.s10As l) ∧
      exec (.s10As l) s = .next { s with
        step := 11, mask := s.mask.extractLsb' 8 4 ++ l.extractLsb' 4 2 ++ s.mask.extractLsb' 0 6 }) ∧
    (s.step = 14 → decode (.stp s.step l) = .ok (.s14As l) ∧
      exec (.s14As l) s = .next { s with
        step := 15, mask := s.mask.extractLsb' 8 4 ++ l.extractLsb' 4 2 ++ s.mask.extractLsb' 0 6 }) ∧
    (s.step = 2 ∨ s.step = 6 ∨ s.step = 10 ∨ s.step = 14 →
      exec (.tck l) s = .next { s with
        step := s.step + 1, mask := s.mask.extractLsb' 8 4 ++ l.extractLsb' 4 2 ++ s.mask.extractLsb' 0 6 } ∧
      (∀ l' : Line, l'.extractLsb' 4 2 = l.extractLsb' 4 2 → exec (.tck l') s = exec (.tck l) s) ∧
      (Invariant s → s.sel = false))

/-- Rules R93 and R107: Z, Y, X, Mode take P1, P2, P3, P4 and B, C take P6, P9; A, Start and the directions stay, STEP
becomes 13, and nothing else changes; in every reachable state the select line is HIGH. No other step's TICK writes
bits 11 to 8. -/
def Obligations.ExtendedStepSamplesZyxModeAndBc : Prop :=
  ∀ (s : State) (l : Line), s.run = true →
    (s.step = 12 → decode (.stp s.step l) = .ok (.s12Ext l) ∧
      exec (.s12Ext l) s = .next { s with
        step := 13
        mask := l.extractLsb' 0 1 ++ l.extractLsb' 1 1 ++ l.extractLsb' 2 1 ++ l.extractLsb' 3 1 ++
          s.mask.extractLsb' 6 2 ++ l.extractLsb' 4 2 ++ s.mask.extractLsb' 0 4 } ∧
      exec (.tck l) s = exec (.s12Ext l) s ∧ (Invariant s → s.sel = true)) ∧
    (s.step ≠ 12 → ∀ t, exec (.tck l) s = .next t → t.mask.extractLsb' 8 4 = s.mask.extractLsb' 8 4)

/-- Rule R111: step 16 samples as DIR does, and then, from the mask just sampled, writes the indicator, emits
ActWrite and Report in that order, and returns to idle with the select line HIGH, which in every reachable state it
already is; no SelWrite is emitted. The axis bytes are those of rules R121 to R123, the buttons byte M[11:4] of rule
R124. -/
def Obligations.LastStepSamplesThenFinalizes : Prop :=
  ∀ (s : State) (l : Line) (m : Mask), s.run = true → s.step = 16 → m = s.mask.extractLsb' 6 6 ++ l →
    decode (.stp s.step l) = .ok (.s16Dirfin l) ∧
    exec (.s16Dirfin l) s = .next { s with
      step := 0, sel := true, run := false, mask := m, act := decide (m ≠ 0)
      trace := s.trace ++
        [.actWrite (decide (m ≠ 0)),
         .report
          (if m.getLsbD 2 && !m.getLsbD 3 then 0x80 else if m.getLsbD 3 && !m.getLsbD 2 then 0x7F else 0x00)
          (if m.getLsbD 0 && !m.getLsbD 1 then 0x80 else if m.getLsbD 1 && !m.getLsbD 0 then 0x7F else 0x00)
          (m.extractLsb' 4 8)] } ∧
    exec (.tck l) s = exec (.s16Dirfin l) s ∧ (Invariant s → s.sel = true)

/-! ### The events -/

/-- Rule R81: RESET writes all five registers and emits nothing, in any state, in mid-cycle too. The event and the
values of RUN, MASK and ACT are the spec's own choice (decisions D10, D11, D12, D25; assumption 7). -/
def Obligations.ResetEventWritesEveryRegister : Prop :=
  ∀ s : State, Legal s →
    exec .rst s = .next { s with step := 0, sel := true, run := false, mask := 0, act := false }

/-- Rule R85: an edge with no event holds every state element and emits nothing, and any number of them, with any
levels on the lines, may stand before whatever comes next without changing it. -/
def Obligations.NoEventHoldsTheState : Prop :=
  ∀ s : State, Legal s → exec .nop s = .next s ∧
    ∀ (ls : List Line) (rest : List Stim),
      runSteps ls.length { s with stimulus := ls.map (stimOf false false false) ++ rest } =
        .next { s with stimulus := rest }

/-- Rule R84: a TICK while idle changes nothing, whatever the lines carry. That it is ignored is the spec's own choice
(decision D3; assumption 8). -/
def Obligations.IdleTickIsIgnored : Prop :=
  ∀ (s : State) (l : Line), Legal s → s.run = false → exec (.tck l) s = .next s

/-- An accepted TICK does what the step operation that STEP decodes to does (rule R83), and moves STEP. -/
def Obligations.AcceptedTickPerformsTheStepOperation : Prop :=
  ∀ (s : State) (l : Line) (i : Instr), s.run = true → decode (.stp s.step l) = .ok i →
    exec (.tck l) s = exec i s ∧ ∃ t, exec (.tck l) s = .next t ∧ t.step ≠ s.step ∧ t.step ≠ 17

/-- Rule R54, the test-and-set: BEGIN sets RUN together with STEP = 0 and SEL = HIGH only if RUN = 0; otherwise it
changes nothing. It always completes. -/
def Obligations.BeginArmsOnlyAnIdleBlock : Prop :=
  ∀ s : State, Legal s →
    (s.run = false → exec .beg s = .next { s with step := 0, sel := true, run := true }) ∧
    (s.run = true → exec .beg s = .next s)

/-- Rule R86: TICK first, then BEGIN, at one edge. The order is the spec's own choice (decision D13; assumption 9).
While idle only the BEGIN counts; below step 16 only the TICK; at step 16 the cycle finalizes and the next one is
armed. -/
def Obligations.TickThenBeginRunInThatOrder : Prop :=
  ∀ (s : State) (l : Line), Legal s →
    (s.run = false → exec (.tb l) s = .next { s with step := 0, sel := true, run := true }) ∧
    (s.run = true → s.step ≠ 16 → ∃ t, exec (.tb l) s = .next t ∧ exec (.tck l) s = .next t) ∧
    (s.run = true → s.step = 16 → ∃ t, exec (.tck l) s = .next t ∧ t.run = false ∧
      exec (.tb l) s = .next { t with run := true })

/-! ### The finalizer's functions -/

/-- Rules R121, R122 and R123: the truth table of an axis byte, its signed values, which buttons feed which axis, and
that nothing else does. -/
def Obligations.AxisBytesFollowTheTruthTable : Prop :=
  axisByte false false = 0x00 ∧ axisByte true false = 0x80 ∧ axisByte false true = 0x7F ∧
    axisByte true true = 0x00 ∧ (axisByte true false).toInt = -128 ∧ (axisByte false true).toInt = 127 ∧
    (∀ m : Mask, axisY m = axisByte (m.getLsbD 0) (m.getLsbD 1)) ∧
    (∀ m : Mask, axisX m = axisByte (m.getLsbD 2) (m.getLsbD 3))

/-- Rule R124 (decisions D5, D6): the buttons byte is MASK shifted right by 4, bit by bit the eight buttons in their
order, independent of the directional bits, and every byte occurs. -/
def Obligations.ButtonsByteDropsTheDirections : Prop :=
  (∀ m : Mask, (buttonsByte m).toNat = m.toNat / 16) ∧
    (∀ m : Mask, buttonsByte m = m.extractLsb' 4 8) ∧
    (∀ m : Mask, (buttonsByte m).getLsbD 0 = readButton m .b ∧ (buttonsByte m).getLsbD 1 = readButton m .c ∧
      (buttonsByte m).getLsbD 2 = readButton m .a ∧ (buttonsByte m).getLsbD 3 = readButton m .start ∧
      (buttonsByte m).getLsbD 4 = readButton m .mode ∧ (buttonsByte m).getLsbD 5 = readButton m .x ∧
      (buttonsByte m).getLsbD 6 = readButton m .y ∧ (buttonsByte m).getLsbD 7 = readButton m .z) ∧
    (∀ (m : Mask) (v : Bool), buttonsByte (writeButton m .up v) = buttonsByte m ∧
      buttonsByte (writeButton m .down v) = buttonsByte m ∧ buttonsByte (writeButton m .left v) = buttonsByte m ∧
      buttonsByte (writeButton m .right v) = buttonsByte m) ∧
    (∀ v : Byte, ∃ m : Mask, buttonsByte m = v)

/-! ### The lane table -/

/-- Rule R44: the entry of each step, by its kind and mark, and addresses 17 to 31 hold nothing; the pairs, line and
button by name, are those of rule R64. -/
def Obligations.LaneTableHoldsTheStepMap : Prop :=
  ∀ n : StepNo,
    (n.toNat % 2 = 1 → n.toNat ≤ 15 → lane n = some { kind := .tgl, fin := false, pairs := [] }) ∧
    (n = 0 ∨ n = 4 ∨ n = 8 → lane n = some
      { kind := .dir, fin := false
        pairs := [(.p1, .up), (.p2, .down), (.p3, .left), (.p4, .right), (.p6, .b), (.p9, .c)] }) ∧
    (n = 2 ∨ n = 6 ∨ n = 10 ∨ n = 14 → lane n = some
      { kind := .as, fin := false, pairs := [(.p6, .a), (.p9, .start)] }) ∧
    (n = 12 → lane n = some
      { kind := .ext, fin := false
        pairs := [(.p1, .z), (.p2, .y), (.p3, .x), (.p4, .mode), (.p6, .b), (.p9, .c)] }) ∧
    (n = 16 → lane n = some
      { kind := .dir, fin := true
        pairs := [(.p1, .up), (.p2, .down), (.p3, .left), (.p4, .right), (.p6, .b), (.p9, .c)] }) ∧
    (16 < n.toNat → lane n = none)

/-- Rules R63 and R64, and the source's property E1: an accepted TICK writes to each button that its step's lane
lists the level of that button's line, and to no other button. -/
def Obligations.TickWritesExactlyTheListedButtons : Prop :=
  ∀ (s : State) (l : Line) (e : LaneEntry), s.run = true → lane s.step = some e →
    ∃ t, exec (.tck l) s = .next t ∧ ∀ btn : Button,
      (∀ p, (p, btn) ∈ e.pairs → readButton t.mask btn = lineLevel l p) ∧
      ((∀ p, (p, btn) ∉ e.pairs) → readButton t.mask btn = readButton s.mask btn)

/-- Rules R42 (e) and R69 (b): a TICK's result depends only on the lines its step's lane lists, and on none where it
toggles or is ignored. That an idle block ignores it is the spec's own choice (decision D3; assumption 8), and so is
the order of TB (rule R86, decision D13; assumption 9): with the TICK before the BEGIN, case (c), no line has any effect
on TB while idle. -/
def Obligations.TickReadsOnlyItsLanesLines : Prop :=
  ∀ (s : State) (l l' : Line),
    (s.run = true → ∀ e, lane s.step = some e →
        ∀ p btn, (p, btn) ∈ e.pairs → lineLevel l p = lineLevel l' p) →
      exec (.tck l) s = exec (.tck l') s ∧ exec (.tb l) s = exec (.tb l') s

/-! ### What may change what -/

/-- Rules R26 and R34 (which the spec marks as derived): a step that is not a RESET changes a button's bit only by an
accepted TICK at one of the steps that write it. That no bit changes from idle rests on the spec's own choices that an
idle TICK is ignored (decision D3; assumption 8) and that TB performs its TICK before its BEGIN (decision D13;
assumption 9). -/
def Obligations.ButtonsChangeOnlyAtTheirSteps : Prop :=
  ∀ (s t : State) (btn : Button), step s = .next t → presented s ≠ .rst →
    readButton t.mask btn ≠ readButton s.mask btn →
      s.run = true ∧ hasTick (presented s) = true ∧ s.step.toNat ∈ writtenAt btn

/-- Rules R24, R34 and R125 (decision D11): the indicator level changes only by a RESET or by a finalization, and a
finalization makes it say whether the mask it saw is nonzero. -/
def Obligations.IndicatorChangesOnlyAtFinalizationOrReset : Prop :=
  ∀ s t : State, step s = .next t →
    (t.act ≠ s.act → presented s = .rst ∨ (s.run = true ∧ s.step = 16 ∧ hasTick (presented s) = true)) ∧
    (s.run = true → s.step = 16 → hasTick (presented s) = true → t.act = decide (t.mask ≠ 0))

/-- Rules R140 and R145 (decisions D2, D21; assumption 12): only a BEGIN ends the idle mode, and only a finalization or
a RESET ends the active mode. That a TICK does not end the idle mode is the spec's own choice (decision D3; assumption
8), and so is the order of TB (rule R86, decision D13; assumption 9): with the TICK before the BEGIN, case (b), TB at
STEP = 16 finalizes and arms the next cycle at one edge, so the block is active after it and only TCK is named. -/
def Obligations.ModesAreLeftOnlyByTheirEvents : Prop :=
  ∀ s t : State, step s = .next t →
    (s.run = false → (t.run = true ↔ hasBegin (presented s) = true)) ∧
    (s.run = true → (t.run = false ↔
      presented s = .rst ∨ (s.step = 16 ∧ ∃ l, presented s = .tck l)))

/-- Rule R94: an accepted TICK advances STEP by exactly one, or wraps from 16 to 0 with the return to idle; there is
no other path. -/
def Obligations.AcceptedTickAdvancesByOneOrWraps : Prop :=
  ∀ (s : State) (l : Line), s.run = true → Legal s →
    ∃ t, exec (.tck l) s = .next t ∧
      ((s.step.toNat < 16 ∧ t.step.toNat = s.step.toNat + 1 ∧ t.run = true) ∨
        (s.step.toNat = 16 ∧ t.step = 0 ∧ t.sel = true ∧ t.run = false))

/-- Rule R46 (decisions D14, D18, D19): what a step appends to the trace, and that it never alters what stands
there. -/
def Obligations.StepAppendsExactlyItsTraceItems : Prop :=
  ∀ s t : State, step s = .next t →
    t.trace = s.trace ++
      (if s.run = true ∧ hasTick (presented s) = true then
        if s.step.toNat % 2 = 1 then [.selWrite (!s.sel)]
        else if s.step = 16 then
          [.actWrite (decide (t.mask ≠ 0)), .report (axisX t.mask) (axisY t.mask) (buttonsByte t.mask)]
        else []
      else [])

/-- Rules R67 and R69 (e) (decision D24): the axis bytes of every report handed over are 0x80, 0x7F or 0x00; every
step keeps that. -/
def Obligations.StepKeepsReportAxisConstants : Prop :=
  ∀ s t : State, ReportsHaveAxisConstants s.trace → step s = .next t → ReportsHaveAxisConstants t.trace

/-- Rules R45 and R56 (decisions D15, D16; assumption 19): the level outputs equal their registers, and the report
outputs and the trace are two views of one behaviour: rpt_valid is 1 exactly when the step hands a report over, and
the three outputs then carry its bytes. -/
def Obligations.ReportPortsAgreeWithTheTrace : Prop :=
  ∀ (s : State) (sw : Stim), Legal s →
    (outputs sw s).sel = s.sel ∧ (outputs sw s).tickEn = s.run ∧ (outputs sw s).act = s.act ∧
    ∃ t, exec (decodeEvt sw) s = .next t ∧
      ((outputs sw s).rptValid = true →
        t.trace = s.trace ++
          [.actWrite t.act, .report (outputs sw s).rptX (outputs sw s).rptY (outputs sw s).rptB]) ∧
      ((outputs sw s).rptValid = false →
        ∃ items, t.trace = s.trace ++ items ∧ ∀ x y v, TraceItem.report x y v ∉ items)

/-- Rule R147: while active, edges without TICK and RESET change nothing, however many there are and however often
BEGIN is presented; so only a TICK or a RESET moves the block on. -/
def Obligations.StalledTickSourceHoldsTheCycle : Prop :=
  ∀ (s : State) (ws rest : List Stim), Legal s → s.run = true →
    (∀ sw ∈ ws, sw.getLsbD 8 = false ∧ sw.getLsbD 6 = false) →
      runSteps ws.length { s with stimulus := ws ++ rest } = .next { s with stimulus := rest }

/-- Rules R154 (3), R157 and R159, as premises on the word presented: with no TICK while idle, every TICK moves STEP on;
with no RESET in mid-cycle, a cycle ends only by handing its report over; with no BEGIN in mid-cycle, every BEGIN arms a
cycle at step 0, at the finalizing edge too (decisions D3, D13, D25). -/
def Obligations.EnvironmentPremisesMakeEveryEventCount : Prop :=
  ∀ s t : State, step s = .next t →
    (NoIdleTick s → hasTick (presented s) = true →
      t.step.toNat = if s.step = 16 then 0 else s.step.toNat + 1) ∧
    (NoMidCycleReset s → s.run = true → t.run = false →
      ∃ items x y v, t.trace = s.trace ++ items ∧ TraceItem.report x y v ∈ items) ∧
    (NoLostBegin s → hasBegin (presented s) = true → t.run = true ∧ t.step = 0 ∧ t.sel = true)

/-! ### The cycle -/

/-- Rule R112 (which the spec marks as derived), with the trace of rule R46: from any idle state, BEGIN and seventeen
TICKs end idle with the mask that the line vectors of steps 12, 14 and 16 alone decide, eight SelWrite items, one
ActWrite and one Report. Neither the old mask nor any other sample has a say. -/
def Obligations.CompleteCycleIsDecidedByThreeSamples : Prop :=
  ∀ (s : State) (l0 l1 l2 l3 l4 l5 l6 l7 l8 l9 l10 l11 l12 l13 l14 l15 l16 : Line) (m : Mask),
    Legal s → s.run = false →
    m = l12.extractLsb' 0 1 ++ l12.extractLsb' 1 1 ++ l12.extractLsb' 2 1 ++ l12.extractLsb' 3 1 ++
      l14.extractLsb' 4 2 ++ l16 →
    runProgram (cycle [l0, l1, l2, l3, l4, l5, l6, l7, l8, l9, l10, l11, l12, l13, l14, l15, l16]) s =
      .next { s with
        step := 0, sel := true, run := false, mask := m, act := decide (m ≠ 0)
        trace := s.trace ++
          [.selWrite false, .selWrite true, .selWrite false, .selWrite true,
           .selWrite false, .selWrite true, .selWrite false, .selWrite true,
           .actWrite (decide (m ≠ 0)), .report (axisX m) (axisY m) (buttonsByte m)] }

/-- Rules R83 and R126: a cycle that has had fewer than seventeen TICKs is still active, at the step that counts
them, and has handed nothing over. -/
def Obligations.CycleStaysActiveBelowSeventeenTicks : Prop :=
  ∀ (s : State) (ls : List Line), Legal s → s.run = false → ls.length ≤ 16 →
    ∃ t, runProgram (.beg :: ls.map .tck) s = .next t ∧ t.run = true ∧ t.step.toNat = ls.length ∧
      t.act = s.act ∧ ∃ items, t.trace = s.trace ++ items ∧ ∀ v ∈ items, ∃ b, v = TraceItem.selWrite b

/-- Rule R74 (decision D26: PAD is a test device of the spec, no controller): from any idle state `PAD M g` ends
idle with MASK = M, for every M and every g. -/
def Obligations.PadEndsWithItsMask : Prop :=
  ∀ (s : State) (m : Mask) (g : Line), Legal s → s.run = false →
    ∃ t, runProgram (pad m g) s = .next t ∧ t.mask = m ∧ t.run = false ∧ t.act = decide (m ≠ 0)

/-- Rule R152 (which the spec marks as derived): from an idle state, after any number of steps, nothing but MASK itself
depends on what MASK held at the start: the trace, the pins and every other register are the same. -/
def Obligations.NothingShowsTheMaskACycleStartsFrom : Prop :=
  ∀ (n : Nat) (s t : State) (m : Mask), s.run = false →
    runSteps n s = .next t →
      ∃ m', runSteps n { s with mask := m } = .next { t with mask := m' }
end

