-- ==== Sys2Proof/Laws/State.lean ====
section
/-! SUPPORT. One lemma per field of the state per update. -/

namespace Sys2Proof.Machine

variable (s : State)

@[simp] theorem setStep_step (n : StepNo) : (setStep n s).step = n := rfl
@[simp] theorem setStep_sel (n : StepNo) : (setStep n s).sel = s.sel := rfl
@[simp] theorem setStep_run (n : StepNo) : (setStep n s).run = s.run := rfl
@[simp] theorem setStep_mask (n : StepNo) : (setStep n s).mask = s.mask := rfl
@[simp] theorem setStep_act (n : StepNo) : (setStep n s).act = s.act := rfl
@[simp] theorem setStep_trace (n : StepNo) : (setStep n s).trace = s.trace := rfl
@[simp] theorem setStep_stimulus (n : StepNo) : (setStep n s).stimulus = s.stimulus := rfl
@[simp] theorem setStep_draws (n : StepNo) : (setStep n s).draws = s.draws := rfl

@[simp] theorem setSel_step (v : Bool) : (setSel v s).step = s.step := rfl
@[simp] theorem setSel_sel (v : Bool) : (setSel v s).sel = v := rfl
@[simp] theorem setSel_run (v : Bool) : (setSel v s).run = s.run := rfl
@[simp] theorem setSel_mask (v : Bool) : (setSel v s).mask = s.mask := rfl
@[simp] theorem setSel_act (v : Bool) : (setSel v s).act = s.act := rfl
@[simp] theorem setSel_trace (v : Bool) : (setSel v s).trace = s.trace := rfl
@[simp] theorem setSel_stimulus (v : Bool) : (setSel v s).stimulus = s.stimulus := rfl
@[simp] theorem setSel_draws (v : Bool) : (setSel v s).draws = s.draws := rfl

@[simp] theorem setRun_step (v : Bool) : (setRun v s).step = s.step := rfl
@[simp] theorem setRun_sel (v : Bool) : (setRun v s).sel = s.sel := rfl
@[simp] theorem setRun_run (v : Bool) : (setRun v s).run = v := rfl
@[simp] theorem setRun_mask (v : Bool) : (setRun v s).mask = s.mask := rfl
@[simp] theorem setRun_act (v : Bool) : (setRun v s).act = s.act := rfl
@[simp] theorem setRun_trace (v : Bool) : (setRun v s).trace = s.trace := rfl
@[simp] theorem setRun_stimulus (v : Bool) : (setRun v s).stimulus = s.stimulus := rfl
@[simp] theorem setRun_draws (v : Bool) : (setRun v s).draws = s.draws := rfl

@[simp] theorem setMask_step (m : Mask) : (setMask m s).step = s.step := rfl
@[simp] theorem setMask_sel (m : Mask) : (setMask m s).sel = s.sel := rfl
@[simp] theorem setMask_run (m : Mask) : (setMask m s).run = s.run := rfl
@[simp] theorem setMask_mask (m : Mask) : (setMask m s).mask = m := rfl
@[simp] theorem setMask_act (m : Mask) : (setMask m s).act = s.act := rfl
@[simp] theorem setMask_trace (m : Mask) : (setMask m s).trace = s.trace := rfl
@[simp] theorem setMask_stimulus (m : Mask) : (setMask m s).stimulus = s.stimulus := rfl
@[simp] theorem setMask_draws (m : Mask) : (setMask m s).draws = s.draws := rfl

@[simp] theorem setAct_step (v : Bool) : (setAct v s).step = s.step := rfl
@[simp] theorem setAct_sel (v : Bool) : (setAct v s).sel = s.sel := rfl
@[simp] theorem setAct_run (v : Bool) : (setAct v s).run = s.run := rfl
@[simp] theorem setAct_mask (v : Bool) : (setAct v s).mask = s.mask := rfl
@[simp] theorem setAct_act (v : Bool) : (setAct v s).act = v := rfl
@[simp] theorem setAct_trace (v : Bool) : (setAct v s).trace = s.trace := rfl
@[simp] theorem setAct_stimulus (v : Bool) : (setAct v s).stimulus = s.stimulus := rfl
@[simp] theorem setAct_draws (v : Bool) : (setAct v s).draws = s.draws := rfl

@[simp] theorem emit_step (i : TraceItem) : (emit i s).step = s.step := rfl
@[simp] theorem emit_sel (i : TraceItem) : (emit i s).sel = s.sel := rfl
@[simp] theorem emit_run (i : TraceItem) : (emit i s).run = s.run := rfl
@[simp] theorem emit_mask (i : TraceItem) : (emit i s).mask = s.mask := rfl
@[simp] theorem emit_act (i : TraceItem) : (emit i s).act = s.act := rfl
@[simp] theorem emit_trace (i : TraceItem) : (emit i s).trace = s.trace ++ [i] := rfl
@[simp] theorem emit_stimulus (i : TraceItem) : (emit i s).stimulus = s.stimulus := rfl
@[simp] theorem emit_draws (i : TraceItem) : (emit i s).draws = s.draws := rfl

end Sys2Proof.Machine
end

