-- ==== Sys2Proof/Laws/Ops.lean ====
section
/-! SUPPORT. For each shared operation, what it does, said once. -/

namespace Sys2Proof.Machine

/-! ### The refusal of reserved STEP values -/

theorem legalStep_iff (n : StepNo) : legalStep n = true ↔ n.toNat ≤ 16 := by
  rw [legalStep, decide_eq_true_eq, lastStep]

theorem onLegalStep_of_legal {s : State} (h : s.step.toNat ≤ 16) (f : State → Result) :
    onLegalStep s f = f s := by
  simp [onLegalStep, (legalStep_iff s.step).2 h]

theorem onLegalStep_of_reserved {s : State} (h : 16 < s.step.toNat) (f : State → Result) :
    onLegalStep s f = .refused .reservedStep := by
  have : legalStep s.step = false := by
    rw [← Bool.not_eq_true, legalStep_iff]
    omega
  simp [onLegalStep, this]

/-- `onLegalStep` answers a next state only where STEP is legal and the continuation answers it. -/
theorem onLegalStep_eq_next {s t : State} {f : State → Result} :
    onLegalStep s f = .next t ↔ s.step.toNat ≤ 16 ∧ f s = .next t := by
  by_cases h : s.step.toNat ≤ 16
  · simp [onLegalStep_of_legal h, h]
  · simp [onLegalStep_of_reserved (Nat.lt_of_not_le h), h]

@[simp] theorem andThen_next (s : State) (f : State → Result) : andThen (.next s) f = f s := rfl

@[simp] theorem andThen_refused (e : Refusal) (f : State → Result) :
    andThen (.refused e) f = .refused e := rfl

theorem andThen_eq_next {r : Result} {f : State → Result} {t : State} :
    andThen r f = .next t ↔ ∃ s, r = .next s ∧ f s = .next t := by
  cases r <;> simp [andThen]

/-! ### Bits of MASK -/

theorem buttonBit_lt (btn : Button) : buttonBit btn < 12 := by
  cases btn <;> decide

theorem buttonBit_injective {p q : Button} (h : buttonBit p = buttonBit q) : p = q := by
  cases p <;> cases q <;> first | rfl | exact absurd h (by decide)

/-- Reading any bit after writing a button's bit. -/
theorem writeButton_getLsbD (m : Mask) (btn : Button) (v : Bool) (i : Nat) :
    (writeButton m btn v).getLsbD i = if i = buttonBit btn then v else m.getLsbD i := by
  have hb := buttonBit_lt btn
  by_cases hi : i < 12
  · unfold writeButton
    by_cases h : i = buttonBit btn
    · subst h
      cases v <;> simp [hb]
    · cases v <;> simp [h, hi, BitVec.getElem_one] <;> omega
  · have h : i ≠ buttonBit btn := by omega
    rw [if_neg h, BitVec.getLsbD_of_ge _ _ (by omega), BitVec.getLsbD_of_ge _ _ (by omega)]

theorem readButton_writeButton (m : Mask) (p q : Button) (v : Bool) :
    readButton (writeButton m p v) q = if q = p then v else readButton m q := by
  rw [readButton, writeButton_getLsbD]
  by_cases h : q = p
  · simp [h]
  · rw [if_neg h, if_neg fun e => h (buttonBit_injective e), readButton]

/-! ### Sampling, in the vector form of rule R68 -/

theorem samplePairs_dir (l : Line) (m : Mask) :
    samplePairs (kindPairs .dir) l m = m.extractLsb' 6 6 ++ l := by
  apply BitVec.eq_of_getLsbD_eq
  intro i hi
  refine Eq.trans ?_ (BitVec.getLsbD_append (x := m.extractLsb' 6 6) (y := l)).symm
  simp only [samplePairs, kindPairs, dirPairs, List.foldl, writeButton_getLsbD, buttonBit]
  interval_cases i <;> simp [lineLevel, lineIndex]

theorem samplePairs_as (l : Line) (m : Mask) :
    samplePairs (kindPairs .as) l m = m.extractLsb' 8 4 ++ l.extractLsb' 4 2 ++ m.extractLsb' 0 6 := by
  apply BitVec.eq_of_getLsbD_eq
  intro i hi
  refine Eq.trans ?_ (BitVec.getLsbD_append (x := m.extractLsb' 8 4 ++ l.extractLsb' 4 2)
    (y := m.extractLsb' 0 6)).symm
  simp only [samplePairs, kindPairs, asPairs, List.foldl, writeButton_getLsbD, buttonBit, BitVec.getLsbD_append]
  interval_cases i <;> simp [lineLevel, lineIndex]

theorem samplePairs_ext (l : Line) (m : Mask) :
    samplePairs (kindPairs .ext) l m =
      l.extractLsb' 0 1 ++ l.extractLsb' 1 1 ++ l.extractLsb' 2 1 ++ l.extractLsb' 3 1 ++
        m.extractLsb' 6 2 ++ l.extractLsb' 4 2 ++ m.extractLsb' 0 4 := by
  apply BitVec.eq_of_getLsbD_eq
  intro i hi
  refine Eq.trans ?_ (BitVec.getLsbD_append (x := l.extractLsb' 0 1 ++ l.extractLsb' 1 1 ++ l.extractLsb' 2 1 ++
    l.extractLsb' 3 1 ++ m.extractLsb' 6 2 ++ l.extractLsb' 4 2) (y := m.extractLsb' 0 4)).symm
  simp only [samplePairs, kindPairs, extPairs, List.foldl, writeButton_getLsbD, buttonBit, BitVec.getLsbD_append]
  interval_cases i <;> simp [lineLevel, lineIndex]

/-- A sampling touches MASK only. -/
theorem sample_eq (k : Kind) (l : Line) (s : State) :
    sample k l s = { s with mask := samplePairs (kindPairs k) l s.mask } := rfl

/-! ### The toggle, the advance and finalization -/

theorem toggle_eq (s : State) :
    toggle s = { s with sel := !s.sel, trace := s.trace ++ [.selWrite (!s.sel)] } := rfl

theorem finalize_eq (s : State) :
    finalize s = { s with
      step := 0, sel := true, run := false, act := indicatorLevel s.mask,
      trace := s.trace ++
        [.actWrite (indicatorLevel s.mask), .report (axisX s.mask) (axisY s.mask) (buttonsByte s.mask)] } := by
  simp [finalize, restart, setStep, setSel, setRun, setAct, emit]

theorem advance_below {s : State} (h : s.step.toNat < 16) : advance s = { s with step := s.step + 1 } := by
  have hn : (s.step + 1).toNat = s.step.toNat + 1 := by
    rw [BitVec.toNat_add, show (1 : StepNo).toNat = 1 from rfl]
    omega
  have hlt : ¬ (s.step + 1).toNat > lastStep := by
    rw [hn, lastStep]
    omega
  rw [advance]
  exact if_neg hlt

theorem advance_at_last {s : State} (h : s.step = 16) : advance s = finalize s := by
  have hgt : (s.step + 1).toNat > lastStep := by
    rw [h]
    decide
  rw [advance]
  exact if_pos hgt

/-! ### RESET, BEGIN and TICK -/

theorem resetRegisters_eq (s : State) :
    resetRegisters s = { s with step := 0, sel := true, run := false, mask := 0, act := false } := rfl

theorem beginCycle_idle {s : State} (h : s.run = false) :
    beginCycle s = { s with step := 0, sel := true, run := true } := by
  simp [beginCycle, h, setStep, setSel, setRun]

theorem beginCycle_active {s : State} (h : s.run = true) : beginCycle s = s := by
  simp [beginCycle, h]

theorem tickEvent_idle {s : State} (h : s.run = false) (l : Line) : tickEvent l s = .next s := by
  simp [tickEvent, h]

theorem tickEvent_active {s : State} (h : s.run = true) (l : Line) : tickEvent l s = performStep l s := by
  simp [tickEvent, h]

/-! ### The step map -/

theorem performStep_0 {s : State} (h : s.step = 0) (l : Line) : performStep l s = execS0Dir l s := by
  simp [performStep, h]

theorem performStep_1 {s : State} (h : s.step = 1) (l : Line) : performStep l s = execS1Tgl s := by
  simp [performStep, h]

theorem performStep_2 {s : State} (h : s.step = 2) (l : Line) : performStep l s = execS2As l s := by
  simp [performStep, h]

theorem performStep_3 {s : State} (h : s.step = 3) (l : Line) : performStep l s = execS3Tgl s := by
  simp [performStep, h]

theorem performStep_4 {s : State} (h : s.step = 4) (l : Line) : performStep l s = execS4Dir l s := by
  simp [performStep, h]

theorem performStep_5 {s : State} (h : s.step = 5) (l : Line) : performStep l s = execS5Tgl s := by
  simp [performStep, h]

theorem performStep_6 {s : State} (h : s.step = 6) (l : Line) : performStep l s = execS6As l s := by
  simp [performStep, h]

theorem performStep_7 {s : State} (h : s.step = 7) (l : Line) : performStep l s = execS7Tgl s := by
  simp [performStep, h]

theorem performStep_8 {s : State} (h : s.step = 8) (l : Line) : performStep l s = execS8Dir l s := by
  simp [performStep, h]

theorem performStep_9 {s : State} (h : s.step = 9) (l : Line) : performStep l s = execS9Tgl s := by
  simp [performStep, h]

theorem performStep_10 {s : State} (h : s.step = 10) (l : Line) : performStep l s = execS10As l s := by
  simp [performStep, h]

theorem performStep_11 {s : State} (h : s.step = 11) (l : Line) : performStep l s = execS11Tgl s := by
  simp [performStep, h]

theorem performStep_12 {s : State} (h : s.step = 12) (l : Line) : performStep l s = execS12Ext l s := by
  simp [performStep, h]

theorem performStep_13 {s : State} (h : s.step = 13) (l : Line) : performStep l s = execS13Tgl s := by
  simp [performStep, h]

theorem performStep_14 {s : State} (h : s.step = 14) (l : Line) : performStep l s = execS14As l s := by
  simp [performStep, h]

theorem performStep_15 {s : State} (h : s.step = 15) (l : Line) : performStep l s = execS15Tgl s := by
  simp [performStep, h]

theorem performStep_16 {s : State} (h : s.step = 16) (l : Line) : performStep l s = execS16Dirfin l s := by
  simp [performStep, h]

theorem performStep_of_reserved {s : State} (h : 16 < s.step.toNat) (l : Line) :
    performStep l s = .refused .reservedStep := by
  unfold performStep
  split <;> first | rfl | omega

/-! ### The environment -/

theorem takeStimulus_queued {s : State} {sw : Stim} {rest : List Stim} (h : s.stimulus = sw :: rest) :
    takeStimulus s = (sw, { s with stimulus := rest }) := by
  simp [takeStimulus, h]

theorem takeStimulus_free {s : State} (h : s.stimulus = []) :
    takeStimulus s = (Config.freeStimulus s.draws, { s with draws := s.draws + 1 }) := by
  simp [takeStimulus, h]

/-- Taking a word touches nothing but the model's own fields. -/
theorem takeStimulus_keeps (s : State) :
    (takeStimulus s).2.step = s.step ∧ (takeStimulus s).2.sel = s.sel ∧ (takeStimulus s).2.run = s.run ∧
      (takeStimulus s).2.mask = s.mask ∧ (takeStimulus s).2.act = s.act ∧ (takeStimulus s).2.trace = s.trace := by
  cases h : s.stimulus with
  | nil => simp [takeStimulus_free h]
  | cons sw rest => simp [takeStimulus_queued h]

end Sys2Proof.Machine
end

