-- ==== Sys2Proof/Laws/PerInstr.lean ====
section
/-! SUPPORT. The family EncodingMatchesRow: every instruction's encoding is of its table row's format and matches
the row under the row's mask. -/

namespace Sys2Proof.Laws

/-- The row of spec/opcode_table.json an instruction belongs to: the format's width in bits, match and mask. -/
def tableRow (i : Instr) : Nat × Nat × Nat :=
  match i with
  | .s0Dir _ => (5, 0x00, 0x1F)
  | .s1Tgl => (5, 0x01, 0x1F)
  | .s2As _ => (5, 0x02, 0x1F)
  | .s3Tgl => (5, 0x03, 0x1F)
  | .s4Dir _ => (5, 0x04, 0x1F)
  | .s5Tgl => (5, 0x05, 0x1F)
  | .s6As _ => (5, 0x06, 0x1F)
  | .s7Tgl => (5, 0x07, 0x1F)
  | .s8Dir _ => (5, 0x08, 0x1F)
  | .s9Tgl => (5, 0x09, 0x1F)
  | .s10As _ => (5, 0x0A, 0x1F)
  | .s11Tgl => (5, 0x0B, 0x1F)
  | .s12Ext _ => (5, 0x0C, 0x1F)
  | .s13Tgl => (5, 0x0D, 0x1F)
  | .s14As _ => (5, 0x0E, 0x1F)
  | .s15Tgl => (5, 0x0F, 0x1F)
  | .s16Dirfin _ => (5, 0x10, 0x1F)
  | .rst => (9, 0x100, 0x100)
  | .nop => (9, 0x000, 0x1C0)
  | .tck _ => (9, 0x040, 0x1C0)
  | .beg => (9, 0x080, 0x1C0)
  | .tb _ => (9, 0x0C0, 0x1C0)

/-- A word has a row's width and its fixed bits. -/
def wordMatches (w : Word) (row : Nat × Nat × Nat) : Prop :=
  match w with
  | .stp st _ => row.1 = 5 ∧ st.toNat &&& row.2.2 = row.2.1
  | .evt sw => row.1 = 9 ∧ sw.toNat &&& row.2.2 = row.2.1

/-- The encoding of the instruction is of its row's format and matches the row. -/
def EncodingMatchesRow.Statement (i : Instr) : Prop := wordMatches (encode i) (tableRow i)

/-- The line field of a stimulus word leaves the three strobes alone (rule R70). -/
theorem stimOf_and_strobes (rst beg tick : Bool) (l : Line) :
    (stimOf rst beg tick l).toNat &&& 0x1C0 = (stimOf rst beg tick 0).toNat := by
  revert l
  cases rst <;> cases beg <;> cases tick <;> decide

theorem EncodingMatchesRow.s0Dir (l : Line) : EncodingMatchesRow.Statement (.s0Dir l) :=
  show wordMatches (.stp 0b00000#5 l) (5, 0x00, 0x1F) from ⟨rfl, rfl⟩

theorem EncodingMatchesRow.s1Tgl : EncodingMatchesRow.Statement .s1Tgl := ⟨rfl, rfl⟩

theorem EncodingMatchesRow.s2As (l : Line) : EncodingMatchesRow.Statement (.s2As l) :=
  show wordMatches (.stp 0b00010#5 l) (5, 0x02, 0x1F) from ⟨rfl, rfl⟩

theorem EncodingMatchesRow.s3Tgl : EncodingMatchesRow.Statement .s3Tgl := ⟨rfl, rfl⟩

theorem EncodingMatchesRow.s4Dir (l : Line) : EncodingMatchesRow.Statement (.s4Dir l) :=
  show wordMatches (.stp 0b00100#5 l) (5, 0x04, 0x1F) from ⟨rfl, rfl⟩

theorem EncodingMatchesRow.s5Tgl : EncodingMatchesRow.Statement .s5Tgl := ⟨rfl, rfl⟩

theorem EncodingMatchesRow.s6As (l : Line) : EncodingMatchesRow.Statement (.s6As l) :=
  show wordMatches (.stp 0b00110#5 l) (5, 0x06, 0x1F) from ⟨rfl, rfl⟩

theorem EncodingMatchesRow.s7Tgl : EncodingMatchesRow.Statement .s7Tgl := ⟨rfl, rfl⟩

theorem EncodingMatchesRow.s8Dir (l : Line) : EncodingMatchesRow.Statement (.s8Dir l) :=
  show wordMatches (.stp 0b01000#5 l) (5, 0x08, 0x1F) from ⟨rfl, rfl⟩

theorem EncodingMatchesRow.s9Tgl : EncodingMatchesRow.Statement .s9Tgl := ⟨rfl, rfl⟩

theorem EncodingMatchesRow.s10As (l : Line) : EncodingMatchesRow.Statement (.s10As l) :=
  show wordMatches (.stp 0b01010#5 l) (5, 0x0A, 0x1F) from ⟨rfl, rfl⟩

theorem EncodingMatchesRow.s11Tgl : EncodingMatchesRow.Statement .s11Tgl := ⟨rfl, rfl⟩

theorem EncodingMatchesRow.s12Ext (l : Line) : EncodingMatchesRow.Statement (.s12Ext l) :=
  show wordMatches (.stp 0b01100#5 l) (5, 0x0C, 0x1F) from ⟨rfl, rfl⟩

theorem EncodingMatchesRow.s13Tgl : EncodingMatchesRow.Statement .s13Tgl := ⟨rfl, rfl⟩

theorem EncodingMatchesRow.s14As (l : Line) : EncodingMatchesRow.Statement (.s14As l) :=
  show wordMatches (.stp 0b01110#5 l) (5, 0x0E, 0x1F) from ⟨rfl, rfl⟩

theorem EncodingMatchesRow.s15Tgl : EncodingMatchesRow.Statement .s15Tgl := ⟨rfl, rfl⟩

theorem EncodingMatchesRow.s16Dirfin (l : Line) : EncodingMatchesRow.Statement (.s16Dirfin l) :=
  show wordMatches (.stp 0b10000#5 l) (5, 0x10, 0x1F) from ⟨rfl, rfl⟩

theorem EncodingMatchesRow.rst : EncodingMatchesRow.Statement .rst := ⟨rfl, rfl⟩

theorem EncodingMatchesRow.nop : EncodingMatchesRow.Statement .nop := ⟨rfl, rfl⟩

theorem EncodingMatchesRow.tck (l : Line) : EncodingMatchesRow.Statement (.tck l) :=
  ⟨rfl, stimOf_and_strobes false false true l⟩

theorem EncodingMatchesRow.beg : EncodingMatchesRow.Statement .beg := ⟨rfl, rfl⟩

theorem EncodingMatchesRow.tb (l : Line) : EncodingMatchesRow.Statement (.tb l) :=
  ⟨rfl, stimOf_and_strobes false true true l⟩

end Sys2Proof.Laws
end

