-- ==== Sys2Proof/Laws/Run.lean ====
section
/-! SUPPORT. The machine's own run is the host's. -/

namespace Sys2Proof.Machine

@[simp] theorem runSteps_zero (s : State) : runSteps 0 s = .next s := rfl

theorem runSteps_succ (n : Nat) (s : State) : runSteps (n + 1) s = andThen (step s) (runSteps n) := rfl

/-- One more step of a host's run, case by case. -/
theorem run_succ_of_next (M : Host.Core) (n : Nat) (s t : M.State) (h : M.step s = .next t) :
    M.run (n + 1) s = M.run n t := by
  simp only [Host.Core.run, h]

theorem run_succ_of_fault (M : Host.Core) (n : Nat) (s : M.State) (e : M.Fault) (h : M.step s = .fault e) :
    M.run (n + 1) s = .fault e := by
  simp only [Host.Core.run, h]

theorem run_succ_of_refused (M : Host.Core) (n : Nat) (s : M.State) (e : M.Refusal)
    (h : M.step s = .refused e) : M.run (n + 1) s = .refused e := by
  simp only [Host.Core.run, h]

/-- What `runSteps` says of the machine, the host's run says of it. -/
theorem run_core_eq_runSteps (n : Nat) (s : State) : Host.Core.run Sys2Proof.core n s = runSteps n s := by
  induction n generalizing s with
  | zero => rfl
  | succ n ih =>
    rw [runSteps_succ]
    cases h : step s with
    | next t => exact (run_succ_of_next Sys2Proof.core n s t h).trans (ih t)
    | fault e => exact run_succ_of_fault Sys2Proof.core n s e h
    | refused e => exact run_succ_of_refused Sys2Proof.core n s e h

end Sys2Proof.Machine
end

