-- ==== Sys2Proof/Tests/Slice0.lean ====
section
/-! SUPPORT. The implementer's own tests: words written out from the spec's encodings, one or two events per
instruction from the examples of its rule and the vectors of spec/95_test_vectors.md, ill-formed syntax refused, and
for every statement with hypotheses a concrete state and operands that meet them. -/

namespace Sys2Proof.Tests

open Sys2Proof Sys2Proof.Machine

/-- The state (STEP, SEL, RUN, MASK, ACT) of the vectors, with nothing emitted and no word presented. -/
def st (step : StepNo) (sel run : Bool) (mask : Mask) (act : Bool) : State :=
  { step := step, sel := sel, run := run, mask := mask, act := act, trace := [], stimulus := [], draws := 0 }

/-- A state with the items an event has emitted. -/
def emitted (items : List TraceItem) (s : State) : State := { s with trace := items }

/-- A state with one stimulus word presented. -/
def given (sw : Stim) (s : State) : State := { s with stimulus := [sw] }

/-- A running cycle at a step, with the select level of rule R32 INV3. -/
def active (k : StepNo) : State := st k (decide (k.toNat % 4 < 2)) true 0xA6B false

/-- The next state, if there is one. -/
def nextOf (r : Result) : Option State :=
  match r with
  | .next s => some s
  | .fault _ => none
  | .refused _ => none

/-! ### Decoding: the words of rules R62 and R71, bit by bit -/

theorem test_decode_s0Dir : decodeTableWord 8 0b00000 = some (.s0Dir 0b000000) := by decide

theorem test_decode_s1Tgl : decodeTableWord 8 0b00001 = some .s1Tgl := by decide

theorem test_decode_s2As : decodeTableWord 8 0b00010 = some (.s2As 0b000000) := by decide

theorem test_decode_s3Tgl : decodeTableWord 8 0b00011 = some .s3Tgl := by decide

theorem test_decode_s4Dir : decodeTableWord 8 0b00100 = some (.s4Dir 0b000000) := by decide

theorem test_decode_s5Tgl : decodeTableWord 8 0b00101 = some .s5Tgl := by decide

theorem test_decode_s6As : decodeTableWord 8 0b00110 = some (.s6As 0b000000) := by decide

theorem test_decode_s7Tgl : decodeTableWord 8 0b00111 = some .s7Tgl := by decide

theorem test_decode_s8Dir : decodeTableWord 8 0b01000 = some (.s8Dir 0b000000) := by decide

theorem test_decode_s9Tgl : decodeTableWord 8 0b01001 = some .s9Tgl := by decide

theorem test_decode_s10As : decodeTableWord 8 0b01010 = some (.s10As 0b000000) := by decide

theorem test_decode_s11Tgl : decodeTableWord 8 0b01011 = some .s11Tgl := by decide

theorem test_decode_s12Ext : decodeTableWord 8 0b01100 = some (.s12Ext 0b000000) := by decide

theorem test_decode_s13Tgl : decodeTableWord 8 0b01101 = some .s13Tgl := by decide

theorem test_decode_s14As : decodeTableWord 8 0b01110 = some (.s14As 0b000000) := by decide

theorem test_decode_s15Tgl : decodeTableWord 8 0b01111 = some .s15Tgl := by decide

theorem test_decode_s16Dirfin : decodeTableWord 8 0b10000 = some (.s16Dirfin 0b000000) := by decide

theorem test_decode_rst : decodeTableWord 16 0b100000000 = some .rst := by decide

theorem test_decode_nop : decodeTableWord 16 0b000000000 = some .nop := by decide

theorem test_decode_tck : decodeTableWord 16 0b001000000 = some (.tck 0b000000) := by decide

theorem test_decode_beg : decodeTableWord 16 0b010000000 = some .beg := by decide

theorem test_decode_tb : decodeTableWord 16 0b011000000 = some (.tb 0b000000) := by decide

/-- The line field, bit 5 = P9 down to bit 0 = P1 (rule R65): P6 and P9 high is 0x30. -/
theorem test_decode_tck_line : decodeTableWord 16 0b001110000 = some (.tck 0x30) := by decide

theorem test_decode_tb_line : decodeTableWord 16 0b011000100 = some (.tb 0x04) := by decide

/-- Bits 7 to 0 are ignored under rst, and bits 5 to 0 under begin alone and without a strobe (rule R71). -/
theorem test_decode_ignored_bits :
    decodeTableWord 16 0b111111111 = some .rst ∧ decodeTableWord 16 0b010111111 = some .beg ∧
      decodeTableWord 16 0b000101010 = some .nop := by decide

/-- The line operand of a sampling step goes through the decoder whole (rule R65); a toggle drops it. -/
theorem test_decode_step_line :
    decode (.stp 0b01100 0b100101) = .ok (.s12Ext 0x25) ∧ decode (.stp 0b01101 0b100101) = .ok .s13Tgl := by
  decide

/-- The reserved values 17 to 31 are rejected by name, at both ends of the range (rule R69 (a)). -/
theorem test_decode_reserved :
    decode (.stp 0b10001 0) = .error (.reservedStep 17) ∧ decode (.stp 0b11111 0x3F) = .error (.reservedStep 31) ∧
      decodeTableWord 8 0b10001 = none ∧ decodeTableWord 8 0b11111 = none := by decide

/-- No word of a format, no instruction. -/
theorem test_decode_outside :
    decodeTableWord 8 32 = none ∧ decodeTableWord 16 512 = none ∧ decodeTableWord 24 0 = none := by decide

/-- The canonical words of rule R71. -/
theorem test_encode_events :
    encode .rst = .evt 0x100 ∧ encode .beg = .evt 0x080 ∧ encode .nop = .evt 0x000 ∧
      encode (.tck 0x2B) = .evt 0x06B ∧ encode (.tb 0x04) = .evt 0x0C4 := by decide

/-! ### Ill-formed syntax is refused -/

theorem test_wf_toggle_with_pairs : LaneEntry.wf { kind := .tgl, fin := false, pairs := [(.p1, .up)] } = false := by
  decide

theorem test_wf_toggle_that_finalizes : LaneEntry.wf { kind := .tgl, fin := true, pairs := [] } = false := by decide

theorem test_wf_lane_without_pairs : LaneEntry.wf { kind := .as, fin := false, pairs := [] } = false := by decide

theorem test_wf_line_twice :
    LaneEntry.wf { kind := .dir, fin := false, pairs := [(.p1, .up), (.p1, .down)] } = false := by decide

theorem test_wf_button_twice :
    LaneEntry.wf { kind := .ext, fin := false, pairs := [(.p1, .z), (.p2, .z)] } = false := by decide

theorem test_wf_lane_table : laneTable.all LaneEntry.wf = true ∧ laneTable.length = 17 := by decide

theorem test_wf_program_with_step_operation : eventProgramWf [.rst, .beg, .s0Dir 0x01] = false := by decide

theorem test_wf_program : eventProgramWf [.rst, .beg, .tck 0x01, .nop, .tb 0x3F] = true := by decide

theorem test_wf_cycle_of_sixteen : cycleArgsWf (List.replicate 16 0) = false := by decide

theorem test_wf_cycle_of_eighteen : cycleArgsWf (List.replicate 18 0) = false := by decide

theorem test_wf_cycle : cycleArgsWf (List.replicate 17 0x30) = true := by decide

/-! ### The step operations: the example of each rule, and a vector of spec/95_test_vectors.md -/

/-- Rule R95. -/
theorem test_s0Dir :
    nextOf (exec (.s0Dir 0x15) (st 0 true true 0xFC0 false)) =
      some (st 1 true true 0xFD5 false) := by decide

/-- V-DIR-1. -/
theorem test_s0Dir_clears :
    nextOf (exec (.s0Dir 0x00) (st 0 true true 0xFFF false)) =
      some (st 1 true true 0xFC0 false) := by decide

/-- Rule R96. -/
theorem test_s1Tgl :
    nextOf (exec .s1Tgl (st 1 true true 0x5A5 false)) =
      some (emitted [.selWrite false] (st 2 false true 0x5A5 false)) := by decide

/-- V-TGL-1, with the indicator level kept. -/
theorem test_s1Tgl_active_indicator :
    nextOf (exec .s1Tgl (st 1 true true 0xFFF true)) =
      some (emitted [.selWrite false] (st 2 false true 0xFFF true)) := by decide

/-- Rule R97. -/
theorem test_s2As :
    nextOf (exec (.s2As 0x2F) (st 2 false true 0x000 false)) =
      some (st 3 false true 0x080 false) := by decide

/-- V-AS-1. -/
theorem test_s2As_clears :
    nextOf (exec (.s2As 0x0F) (st 2 false true 0xFFF false)) =
      some (st 3 false true 0xF3F false) := by decide

/-- Rule R98. -/
theorem test_s3Tgl :
    nextOf (exec .s3Tgl (st 3 false true 0x5A5 false)) =
      some (emitted [.selWrite true] (st 4 true true 0x5A5 false)) := by decide

/-- Rule R99. -/
theorem test_s4Dir :
    nextOf (exec (.s4Dir 0x15) (st 4 true true 0xFC0 false)) =
      some (st 5 true true 0xFD5 false) := by decide

/-- Rule R91, V-DIR-3. -/
theorem test_s4Dir_keeps_indicator :
    nextOf (exec (.s4Dir 0x2B) (st 4 true true 0xFC0 true)) =
      some (st 5 true true 0xFEB true) := by decide

/-- Rule R100. -/
theorem test_s5Tgl :
    nextOf (exec .s5Tgl (st 5 true true 0x5A5 false)) =
      some (emitted [.selWrite false] (st 6 false true 0x5A5 false)) := by decide

/-- Rule R101. -/
theorem test_s6As :
    nextOf (exec (.s6As 0x2F) (st 6 false true 0x000 false)) =
      some (st 7 false true 0x080 false) := by decide

/-- V-AS-3. -/
theorem test_s6As_p6 :
    nextOf (exec (.s6As 0x1F) (st 6 false true 0x000 false)) =
      some (st 7 false true 0x040 false) := by decide

/-- Rule R102. -/
theorem test_s7Tgl :
    nextOf (exec .s7Tgl (st 7 false true 0x5A5 false)) =
      some (emitted [.selWrite true] (st 8 true true 0x5A5 false)) := by decide

/-- Rule R103. -/
theorem test_s8Dir :
    nextOf (exec (.s8Dir 0x15) (st 8 true true 0xFC0 false)) =
      some (st 9 true true 0xFD5 false) := by decide

/-- V-DIR-4. -/
theorem test_s8Dir_p1 :
    nextOf (exec (.s8Dir 0x01) (st 8 true true 0x03F false)) =
      some (st 9 true true 0x001 false) := by decide

/-- Rule R104. -/
theorem test_s9Tgl :
    nextOf (exec .s9Tgl (st 9 true true 0x5A5 false)) =
      some (emitted [.selWrite false] (st 10 false true 0x5A5 false)) := by decide

/-- Rule R105. -/
theorem test_s10As :
    nextOf (exec (.s10As 0x2F) (st 10 false true 0x000 false)) =
      some (st 11 false true 0x080 false) := by decide

/-- V-AS-4. -/
theorem test_s10As_p9 :
    nextOf (exec (.s10As 0x20) (st 10 false true 0x000 false)) =
      some (st 11 false true 0x080 false) := by decide

/-- Rule R106. -/
theorem test_s11Tgl :
    nextOf (exec .s11Tgl (st 11 false true 0x5A5 false)) =
      some (emitted [.selWrite true] (st 12 true true 0x5A5 false)) := by decide

/-- Rule R107. -/
theorem test_s12Ext :
    nextOf (exec (.s12Ext 0x1A) (st 12 true true 0x0CF false)) =
      some (st 13 true true 0x5DF false) := by decide

/-- Rule R93, V-EXT-9. -/
theorem test_s12Ext_reversal :
    nextOf (exec (.s12Ext 0x25) (st 12 true true 0x06B false)) =
      some (st 13 true true 0xA6B false) := by decide

/-- Rule R108. -/
theorem test_s13Tgl :
    nextOf (exec .s13Tgl (st 13 true true 0x5A5 false)) =
      some (emitted [.selWrite false] (st 14 false true 0x5A5 false)) := by decide

/-- Rule R109. -/
theorem test_s14As :
    nextOf (exec (.s14As 0x2F) (st 14 false true 0x000 false)) =
      some (st 15 false true 0x080 false) := by decide

/-- V-AS-6. -/
theorem test_s14As_keeps :
    nextOf (exec (.s14As 0x10) (st 14 false true 0x02B false)) =
      some (st 15 false true 0x06B false) := by decide

/-- Rule R110. -/
theorem test_s15Tgl :
    nextOf (exec .s15Tgl (st 15 false true 0x5A5 false)) =
      some (emitted [.selWrite true] (st 16 true true 0x5A5 false)) := by decide

/-- V-TGL-3. -/
theorem test_s15Tgl_no_wrap :
    nextOf (exec .s15Tgl (st 15 false true 0xA6B true)) =
      some (emitted [.selWrite true] (st 16 true true 0xA6B true)) := by decide

/-- Rule R111. -/
theorem test_s16Dirfin :
    nextOf (exec (.s16Dirfin 0x09) (st 16 true true 0x0C0 false)) =
      some (emitted [.actWrite true, .report 0x7F 0x80 0x0C] (st 0 true false 0x0C9 true)) := by decide

/-- V-ADV-5: the report sees the mask just sampled. -/
theorem test_s16Dirfin_sees_new_mask :
    nextOf (exec (.s16Dirfin 0x00) (st 16 true true 0x03F true)) =
      some (emitted [.actWrite false, .report 0x00 0x00 0x00] (st 0 true false 0x000 false)) := by decide

/-! ### The events -/

/-- Rule R81, V-EVT-1. -/
theorem test_rst :
    nextOf (exec .rst (st 7 false true 0x0F3 true)) =
      some (st 0 true false 0x000 false) := by decide

/-- Rule R85, V-EVT-8. -/
theorem test_nop :
    nextOf (exec .nop (st 5 true true 0x06B false)) =
      some (st 5 true true 0x06B false) := by decide

/-- Rule R83. -/
theorem test_tck :
    nextOf (exec (.tck 0x01) (st 0 true true 0x000 false)) =
      some (st 1 true true 0x001 false) := by decide

/-- Rule R84, V-EVT-7. -/
theorem test_tck_idle :
    nextOf (exec (.tck 0x00) (st 0 true false 0xFFF true)) =
      some (st 0 true false 0xFFF true) := by decide

/-- Rule R82, V-EVT-3. -/
theorem test_beg :
    nextOf (exec .beg (st 0 true false 0x0F0 true)) =
      some (st 0 true true 0x0F0 true) := by decide

/-- Rule R82, V-EVT-5, the source's E9. -/
theorem test_beg_in_cycle :
    nextOf (exec .beg (st 2 false true 0x03F false)) =
      some (st 2 false true 0x03F false) := by decide

/-- Rule R86, V-EVT-9. -/
theorem test_tb_at_last_step :
    nextOf (exec (.tb 0x01) (st 16 true true 0x000 false)) =
      some (emitted [.actWrite true, .report 0x00 0x80 0x00] (st 0 true true 0x001 true)) := by decide

/-- V-EVT-11. -/
theorem test_tb_idle :
    nextOf (exec (.tb 0x3F) (st 0 true false 0x000 false)) =
      some (st 0 true true 0x000 false) := by decide

/-! ### The finalizer's functions and the whole cycle -/

/-- V-FIN-1 at the masks 0x5, 0xA, 0xF and 0xE. -/
theorem test_axes :
    (axisX 0x005, axisY 0x005) = (0x80, 0x80) ∧ (axisX 0x00A, axisY 0x00A) = (0x7F, 0x7F) ∧
      (axisX 0x00F, axisY 0x00F) = (0x00, 0x00) ∧ (axisX 0x00E, axisY 0x00E) = (0x00, 0x7F) := by decide

/-- V-FIN-2 at three masks. -/
theorem test_buttons_byte :
    buttonsByte 0xA6B = 0xA6 ∧ buttonsByte 0x00F = 0x00 ∧ buttonsByte 0x800 = 0x80 := by decide

/-- Rule R125: directions count too. -/
theorem test_indicator :
    indicatorLevel 0x000 = false ∧ indicatorLevel 0x001 = true ∧ indicatorLevel 0x800 = true := by decide

/-- Rule R74 and program P4: what the pad presents for M = 0xA6B with the filler 0x0F on P1 to P4. -/
theorem test_padLines :
    padLines 0xA6B 0 0x3F = 0x2B ∧ padLines 0xA6B 2 0x0F = 0x1F ∧ padLines 0xA6B 12 0x3F = 0x25 ∧
      padLines 0xA6B 16 0x3F = 0x2B ∧ padLines 0xA6B 1 0x3F = 0x3F := by decide

/-- V-INV-3: the mask a whole cycle leaves. -/
theorem test_cycle_law :
    (nextOf (runProgram (cycle [0x3F, 0, 0x3F, 0, 0x3F, 0, 0x3F, 0, 0x3F, 0, 0x3F, 0, 0x05, 0, 0x20, 0, 0x12])
      (st 0 true false 0x555 false))).map (fun s => (s.mask, s.run, s.act)) = some (0xA92, false, true) := by
  decide

/-! ### One step: the word is fetched, decoded and run -/

/-- Program P7, line 5: a reset in mid-cycle, through the fetch. -/
theorem test_step_rst :
    nextOf (step (given 0x100 (st 3 false true 0x07F true))) = some (st 0 true false 0x000 false) := by decide

/-- Program P7, line 1: TICK then BEGIN at the last step, through the fetch. -/
theorem test_step_tb :
    nextOf (step (given 0x0C4 (st 16 true true 0x0C0 false))) =
      some (emitted [.actWrite true, .report 0x80 0x00 0x0C] (st 0 true true 0x0C4 true)) := by decide

/-- A step operation placed as the first instruction after reset. -/
theorem test_fetch_first_step_operation :
    nextOf (step (State.reset.withFetchWord 8 0b00001)) =
      some (emitted [.selWrite false] (st 2 false true 0x000 false)) := by decide

/-- A stimulus word placed as the first instruction after reset. -/
theorem test_fetch_first_event :
    nextOf (step (State.reset.withFetchWord 16 0b010000000)) = some (st 0 true true 0x000 false) := by decide

/-- A state that holds a reserved STEP is refused, at both ends of the range (rule R69 (a)). -/
theorem test_reserved_step_is_refused :
    nextOf (exec .nop (st 17 true true 0 false)) = none ∧ nextOf (exec .rst (st 31 true false 0 false)) = none := by
  decide

/-- The ports in the period of a finalizing TICK and outside it (rule R56). -/
theorem test_ports :
    (outputs 0x049 (st 16 true true 0x0C0 false)).rptValid = true ∧
      (outputs 0x049 (st 16 true true 0x0C0 false)).rptX = 0x7F ∧
      (outputs 0x049 (st 16 true true 0x0C0 false)).rptY = 0x80 ∧
      (outputs 0x049 (st 16 true true 0x0C0 false)).rptB = 0x0C ∧
      (outputs 0x149 (st 16 true true 0x0C0 false)).rptValid = false ∧
      (outputs 0x049 (st 15 false true 0x0C0 false)).rptValid = false := by decide

/-! ### Witnesses: for each statement with hypotheses, a state and operands that meet them, clause by clause -/

/-- Program P7, line 1, before it: the last step of a cycle, TICK and BEGIN presented. -/
def boundary : State := given 0x0C4 (st 16 true true 0x0C0 false)

/-- Program P7, line 1, after it. -/
def rearmed : State := emitted [.actWrite true, .report 0x80 0x00 0x0C] (st 0 true true 0x0C4 true)

theorem witness_StepKeepsTheInvariant :
    Invariant boundary ∧ step boundary = .next rearmed := ⟨by decide, rfl⟩

theorem witness_StepValuesSelectTheStepOperation :
    (0 : StepNo).toNat ≤ 16 ∧ (16 : StepNo).toNat ≤ 16 ∧ 16 < (17 : StepNo).toNat ∧ 16 < (31 : StepNo).toNat :=
  by decide

theorem witness_StepExecutesTheQueuedWord :
    (given 0x06B (active 0)).stimulus = 0x06B :: [] ∧ decode (.evt 0x06B) = .ok (.tck 0x2B) := by decide

theorem witness_StepExecutesAFreeWordWhenNoneIsQueued :
    State.reset.stimulus = [] := by decide

theorem witness_PlacedWordIsExecutedNext :
    (decodeTableWord 0 0 = some (.s0Dir 0) ∧ decodeTableWord 8 16 = some (.s16Dirfin 0) ∧ 8 ≤ 8) ∧
      (decodeTableWord 9 0 = some .nop ∧ decodeTableWord 16 511 = some .rst ∧ 8 < 9) := by decide

theorem witness_OnlyReservedStepsAreRefused :
    Invariant (active 16) ∧ Invariant State.reset ∧
      16 < (active 17).step.toNat ∧ step (given 0x000 (active 17)) = .refused .reservedStep ∧
      16 < (active 31).step.toNat ∧ step (given 0x1FF (active 31)) = .refused .reservedStep :=
  ⟨by decide, by decide, by decide, rfl, by decide, rfl⟩

theorem witness_ExecCompletesExactlyOnLegalSteps :
    (active 0).step.toNat ≤ 16 ∧ (active 16).step.toNat ≤ 16 ∧ 16 < (active 17).step.toNat ∧
      16 < (active 31).step.toNat := by decide

theorem witness_ProgramsRefineTheReferenceStepFunction :
    eventProgramWf [.beg, .tck 0x3F, .nop, .tb 0x01, .rst] = true ∧ Legal (active 16) := by decide

theorem witness_ToggleStepsComplementTheSelectLine :
    ((active 1).run = true ∧ (active 1).step = 1) ∧ ((active 3).run = true ∧ (active 3).step = 3) ∧
      ((active 5).run = true ∧ (active 5).step = 5) ∧ ((active 7).run = true ∧ (active 7).step = 7) ∧
      ((active 9).run = true ∧ (active 9).step = 9) ∧ ((active 11).run = true ∧ (active 11).step = 11) ∧
      ((active 13).run = true ∧ (active 13).step = 13) ∧ ((active 15).run = true ∧ (active 15).step = 15) ∧
      ((active 15).step.toNat % 2 = 1 ∧ (active 15).step.toNat ≤ 15) ∧
      (Invariant (active 1) ∧ (active 1).step.toNat % 2 = 1) ∧
      (Invariant (active 15) ∧ (active 15).step.toNat % 2 = 1) :=
  by decide

theorem witness_DirectionStepsSampleTheLowSixBits :
    ((active 0).run = true ∧ (active 0).step = 0 ∧ Invariant (active 0)) ∧
      ((active 4).run = true ∧ (active 4).step = 4 ∧ Invariant (active 4)) ∧
      ((active 8).run = true ∧ (active 8).step = 8 ∧ Invariant (active 8)) := by decide

theorem witness_StartStepsSampleOnlyTheirTwoBits :
    ((active 2).run = true ∧ (active 2).step = 2 ∧ Invariant (active 2)) ∧
      ((active 6).run = true ∧ (active 6).step = 6 ∧ Invariant (active 6)) ∧
      ((active 10).run = true ∧ (active 10).step = 10 ∧ Invariant (active 10)) ∧
      ((active 14).run = true ∧ (active 14).step = 14 ∧ Invariant (active 14)) ∧
      (0x3F : Line).extractLsb' 4 2 = (0x30 : Line).extractLsb' 4 2 := by decide

theorem witness_ExtendedStepSamplesZyxModeAndBc :
    ((active 12).run = true ∧ (active 12).step = 12 ∧ Invariant (active 12)) ∧
      ((active 16).run = true ∧ (active 16).step ≠ 12 ∧ exec (.tck 0x3F) (active 16) = .next
        (emitted [.actWrite true, .report 0x00 0x00 0xA7] (st 0 true false 0xA7F true))) ∧
      ((active 0).run = true ∧ (active 0).step ≠ 12 ∧
        exec (.tck 0x3F) (active 0) = .next (st 1 true true 0xA7F false)) :=
  ⟨by decide, ⟨rfl, by decide, rfl⟩, ⟨rfl, by decide, rfl⟩⟩

theorem witness_LastStepSamplesThenFinalizes :
    (active 16).run = true ∧ (active 16).step = 16 ∧
      (0xA49 : Mask) = (active 16).mask.extractLsb' 6 6 ++ (0x09 : Line) ∧ Invariant (active 16) := by decide

theorem witness_ResetEventWritesEveryRegister :
    Legal (active 16) ∧ Legal State.reset := by decide

theorem witness_NoEventHoldsTheState :
    Legal (active 16) ∧ Legal State.reset := by decide

theorem witness_IdleTickIsIgnored :
    Legal State.reset ∧ State.reset.run = false := by decide

theorem witness_AcceptedTickPerformsTheStepOperation :
    ((active 0).run = true ∧ decode (.stp (active 0).step 0x3F) = .ok (.s0Dir 0x3F)) ∧
      ((active 16).run = true ∧ decode (.stp (active 16).step 0x3F) = .ok (.s16Dirfin 0x3F)) := by decide

theorem witness_BeginArmsOnlyAnIdleBlock :
    (Legal State.reset ∧ State.reset.run = false) ∧ (Legal (active 0) ∧ (active 0).run = true) ∧
      (Legal (active 16) ∧ (active 16).run = true) := by decide

theorem witness_TickThenBeginRunInThatOrder :
    (Legal State.reset ∧ State.reset.run = false) ∧
      (Legal (active 15) ∧ (active 15).run = true ∧ (active 15).step ≠ 16) ∧
      (Legal (active 0) ∧ (active 0).run = true ∧ (active 0).step ≠ 16) ∧
      (Legal (active 16) ∧ (active 16).run = true ∧ (active 16).step = 16) := by decide

theorem witness_LaneTableHoldsTheStepMap :
    ((1 : StepNo).toNat % 2 = 1 ∧ (1 : StepNo).toNat ≤ 15) ∧
      ((15 : StepNo).toNat % 2 = 1 ∧ (15 : StepNo).toNat ≤ 15) ∧
      (0 : StepNo) = 0 ∧ (8 : StepNo) = 8 ∧ (2 : StepNo) = 2 ∧ (14 : StepNo) = 14 ∧ (12 : StepNo) = 12 ∧
      (16 : StepNo) = 16 ∧ 16 < (17 : StepNo).toNat ∧ 16 < (31 : StepNo).toNat := by decide

theorem witness_TickWritesExactlyTheListedButtons :
    ((active 0).run = true ∧ lane (active 0).step = some (laneEntry .dir false) ∧
        (.p1, .up) ∈ (laneEntry .dir false).pairs) ∧
      ((active 15).run = true ∧ lane (active 15).step = some (laneEntry .tgl false)) ∧
      ((active 16).run = true ∧ lane (active 16).step = some (laneEntry .dir true) ∧
        (.p9, .c) ∈ (laneEntry .dir true).pairs ∧ ∀ p, (p, .start) ∉ (laneEntry .dir true).pairs) :=
  ⟨by decide, by decide, rfl, rfl, by decide, fun p => by cases p <;> decide⟩

/-- The hypothesis at an idle block, at a toggle and at an A/Start step, with line vectors that differ. -/
theorem witness_TickReadsOnlyItsLanesLines :
    (State.reset.run = true → ∀ e, lane State.reset.step = some e →
        ∀ p btn, (p, btn) ∈ e.pairs → lineLevel 0x00 p = lineLevel 0x3F p) ∧
      ((active 15).run = true → ∀ e, lane (active 15).step = some e →
        ∀ p btn, (p, btn) ∈ e.pairs → lineLevel 0x00 p = lineLevel 0x3F p) ∧
      ((active 2).run = true → ∀ e, lane (active 2).step = some e →
        ∀ p btn, (p, btn) ∈ e.pairs → lineLevel 0x30 p = lineLevel 0x3F p) := by
  refine ⟨fun h => absurd h (by decide), fun _ e h p btn hm => ?_, fun _ e h p btn hm => ?_⟩
  · injection h with h
    subst h
    cases hm
  · injection h with h
    subst h
    cases p <;> first | rfl | (exfalso; revert hm; cases btn <;> decide)

theorem witness_ButtonsChangeOnlyAtTheirSteps :
    step (given 0x07F (active 0)) = .next (st 1 true true 0xA7F false) ∧
      presented (given 0x07F (active 0)) ≠ .rst ∧
      readButton (st 1 true true 0xA7F false).mask .left ≠ readButton (given 0x07F (active 0)).mask .left :=
  ⟨rfl, by decide, by decide⟩

theorem witness_IndicatorChangesOnlyAtFinalizationOrReset :
    (step boundary = .next rearmed ∧ rearmed.act ≠ boundary.act) ∧
      (step (given 0x100 (st 3 false true 0x07F true)) = .next (st 0 true false 0x000 false) ∧
        (st 0 true false 0x000 false).act ≠ (given 0x100 (st 3 false true 0x07F true)).act) ∧
      (boundary.run = true ∧ boundary.step = 16 ∧ hasTick (presented boundary) = true) :=
  ⟨⟨rfl, by decide⟩, ⟨rfl, by decide⟩, by decide⟩

theorem witness_ModesAreLeftOnlyByTheirEvents :
    (step (given 0x080 State.reset) = .next (st 0 true true 0x000 false) ∧ (given 0x080 State.reset).run = false) ∧
      (step boundary = .next rearmed ∧ boundary.run = true) := ⟨⟨rfl, rfl⟩, ⟨rfl, rfl⟩⟩

theorem witness_AcceptedTickAdvancesByOneOrWraps :
    ((active 0).run = true ∧ Legal (active 0)) ∧ ((active 15).run = true ∧ Legal (active 15)) ∧
      ((active 16).run = true ∧ Legal (active 16)) := by decide

theorem witness_StepAppendsExactlyItsTraceItems :
    step (given 0x040 (st 15 false true 0xA6B false)) =
        .next (emitted [.selWrite true] (st 16 true true 0xA6B false)) ∧
      step (given 0x07F (active 0)) = .next (st 1 true true 0xA7F false) ∧
      step boundary = .next rearmed ∧
      step (given 0x040 State.reset) = .next State.reset := ⟨rfl, rfl, rfl, rfl⟩

theorem witness_StepKeepsReportAxisConstants :
    ReportsHaveAxisConstants rearmed.trace ∧
      step (given 0x040 rearmed) = .next { rearmed with step := 1, mask := 0x0C0 } := by
  refine ⟨fun x y b h => ?_, rfl⟩
  rcases List.mem_cons.1 h with h | h
  · cases h
  · rcases List.mem_cons.1 h with h | h
    · cases h
      decide
    · cases h

theorem witness_ReportPortsAgreeWithTheTrace :
    (Legal (active 16) ∧ (outputs 0x049 (active 16)).rptValid = true) ∧
      (Legal (active 16) ∧ (outputs 0x149 (active 16)).rptValid = false) ∧
      (Legal State.reset ∧ (outputs 0x07F State.reset).rptValid = false) := by decide

theorem witness_StalledTickSourceHoldsTheCycle :
    Legal (active 16) ∧ (active 16).run = true ∧
      ∀ sw ∈ ([0x000, 0x080, 0x0BF] : List Stim), sw.getLsbD 8 = false ∧ sw.getLsbD 6 = false := by decide

theorem witness_EnvironmentPremisesMakeEveryEventCount :
    (step boundary = .next rearmed ∧ NoIdleTick boundary ∧ hasTick (presented boundary) = true ∧
        NoLostBegin boundary ∧ hasBegin (presented boundary) = true) ∧
      (step (given 0x07F (active 0)) = .next (st 1 true true 0xA7F false) ∧ NoIdleTick (given 0x07F (active 0)) ∧
        hasTick (presented (given 0x07F (active 0))) = true) ∧
      (step (given 0x049 (active 16)) =
          .next (emitted [.actWrite true, .report 0x7F 0x80 0xA4] (st 0 true false 0xA49 true)) ∧
        NoMidCycleReset (given 0x049 (active 16)) ∧ (given 0x049 (active 16)).run = true ∧
        (st 0 true false 0xA49 true).run = false) ∧
      (step (given 0x080 State.reset) = .next (st 0 true true 0x000 false) ∧ NoLostBegin (given 0x080 State.reset) ∧
        hasBegin (presented (given 0x080 State.reset)) = true) :=
  ⟨⟨rfl, by decide, by decide, by decide, by decide⟩, ⟨rfl, by decide, by decide⟩,
    ⟨rfl, by decide, by decide, by decide⟩, ⟨rfl, by decide, by decide⟩⟩

theorem witness_CompleteCycleIsDecidedByThreeSamples :
    Legal (st 0 true false 0x555 false) ∧ (st 0 true false 0x555 false).run = false ∧
      (0xA92 : Mask) = (0x05 : Line).extractLsb' 0 1 ++ (0x05 : Line).extractLsb' 1 1 ++
        (0x05 : Line).extractLsb' 2 1 ++ (0x05 : Line).extractLsb' 3 1 ++ (0x20 : Line).extractLsb' 4 2 ++
        (0x12 : Line) := by decide

theorem witness_CycleStaysActiveBelowSeventeenTicks :
    Legal State.reset ∧ State.reset.run = false ∧ ([] : List Line).length ≤ 16 ∧
      (List.replicate 16 (0x3F : Line)).length ≤ 16 := by decide

theorem witness_PadEndsWithItsMask :
    Legal (st 0 true false 0xFFF true) ∧ (st 0 true false 0xFFF true).run = false := by decide

theorem witness_NothingShowsTheMaskACycleStartsFrom :
    (given 0x080 State.reset).run = false ∧
      runSteps 1 (given 0x080 State.reset) = .next (st 0 true true 0x000 false) := ⟨rfl, rfl⟩

end Sys2Proof.Tests
end

section
/-! The statements about what a TICK reads and BEGIN writes (spec/20_memory.md): the lane table (rule R44) and the
test-and-set on RUN (rule R54). -/

namespace Sys2Proof.Machine

/-! ### The lane table, entry by entry -/

theorem laneTable_length : laneTable.length = 17 := rfl

theorem lane_of_odd {n : StepNo} (hodd : n.toNat % 2 = 1) (hle : n.toNat ≤ 15) :
    lane n = some (laneEntry .tgl false) := by
  obtain ⟨k, hk⟩ : ∃ k, n.toNat = 2 * k + 1 := ⟨n.toNat / 2, by omega⟩
  have hk7 : k ≤ 7 := by omega
  rw [lane, hk]
  interval_cases k <;> rfl

theorem lane_of_dir {n : StepNo} (h : n = 0 ∨ n = 4 ∨ n = 8) : lane n = some (laneEntry .dir false) := by
  obtain rfl | rfl | rfl := h <;> rfl

theorem lane_of_as {n : StepNo} (h : n = 2 ∨ n = 6 ∨ n = 10 ∨ n = 14) : lane n = some (laneEntry .as false) := by
  obtain rfl | rfl | rfl | rfl := h <;> rfl

theorem lane_twelve : lane 12 = some (laneEntry .ext false) := rfl

theorem lane_sixteen : lane 16 = some (laneEntry .dir true) := rfl

/-- The reserved addresses lie beyond the table's seventeen entries. -/
theorem lane_of_reserved {n : StepNo} (h : 16 < n.toNat) : lane n = none := by
  rw [lane, List.getElem?_eq_none_iff, laneTable_length]
  omega

/-- Settles O28: the entry at each address, in the order of the statement's clauses. -/
theorem laneTableHoldsTheStepMap : Obligations.LaneTableHoldsTheStepMap := by
  intro n
  refine ⟨lane_of_odd, lane_of_dir, lane_of_as, ?ext, ?fin, lane_of_reserved⟩
  case ext => rintro rfl; exact lane_twelve
  case fin => rintro rfl; exact lane_sixteen

/-! ### BEGIN -/

theorem exec_beg (s : State) : exec .beg s = execBeg s := rfl

/-- On a legal state the instruction BEG is the operation BEGIN. -/
theorem exec_beg_of_legal {s : State} (h : Legal s) : exec .beg s = .next (beginCycle s) := by
  rw [exec_beg, execBeg, onLegalStep_of_legal h]

/-- Settles O24: BEG is `beginCycle` on a legal state, whose two branches are the test on RUN. -/
theorem beginArmsOnlyAnIdleBlock : Obligations.BeginArmsOnlyAnIdleBlock := by
  intro s hs
  rw [exec_beg_of_legal hs]
  constructor
  · intro hidle
    rw [beginCycle_idle hidle]
  · intro hactive
    rw [beginCycle_active hactive]

end Sys2Proof.Machine
end

section
/-! The statements about single events (spec/40_events.md): an edge without an event (rule R85). -/

namespace Sys2Proof.Machine

/-! ### The strobes of a stimulus word -/

/-- The bits of a stimulus word, field by field from the lines up (rule R70). -/
theorem stimOf_getLsbD (rst beg tick : Bool) (l : Line) (i : Nat) :
    (stimOf rst beg tick l).getLsbD i =
      if i < 6 then l.getLsbD i
      else if i - 6 < 1 then (BitVec.ofBool tick).getLsbD (i - 6)
      else if i - 6 - 1 < 1 then (BitVec.ofBool beg).getLsbD (i - 6 - 1)
      else (BitVec.ofBool rst).getLsbD (i - 6 - 1 - 1) := by
  refine (BitVec.getLsbD_append (x := BitVec.ofBool rst ++ BitVec.ofBool beg ++ BitVec.ofBool tick)
    (y := l)).trans ?_
  simp only [BitVec.getLsbD_append]

theorem stimOf_rst (rst beg tick : Bool) (l : Line) : (stimOf rst beg tick l).getLsbD 8 = rst := by
  rw [stimOf_getLsbD]; simp

theorem stimOf_beg (rst beg tick : Bool) (l : Line) : (stimOf rst beg tick l).getLsbD 7 = beg := by
  rw [stimOf_getLsbD]; simp

theorem stimOf_tick (rst beg tick : Bool) (l : Line) : (stimOf rst beg tick l).getLsbD 6 = tick := by
  rw [stimOf_getLsbD]; simp

/-- The levels on the lines play no part where no strobe is set. -/
theorem decodeEvt_stimOf_no_strobe (l : Line) : decodeEvt (stimOf false false false l) = .nop := by
  simp only [decodeEvt, stimOf_rst, stimOf_beg, stimOf_tick, Bool.false_eq_true, if_false]

/-! ### Queued words -/

theorem step_queued (s : State) (sw : Stim) (rest : List Stim) :
    step { s with stimulus := sw :: rest } = exec (decodeEvt sw) { s with stimulus := rest } := by
  rw [step, takeStimulus_queued rfl]

/-- Words that each hold the state, whatever is queued behind them, hold it one after another. -/
theorem runSteps_of_holding_words {s : State} {ws : List Stim} (rest : List Stim)
    (hold : ∀ sw ∈ ws, ∀ q : List Stim,
      exec (decodeEvt sw) { s with stimulus := q } = .next { s with stimulus := q }) :
    runSteps ws.length { s with stimulus := ws ++ rest } = .next { s with stimulus := rest } := by
  induction ws with
  | nil => rfl
  | cons sw ws ih =>
    obtain ⟨hold_sw, hold_ws⟩ := List.forall_mem_cons.1 hold
    rw [List.length_cons, List.cons_append, runSteps_succ, step_queued, hold_sw, andThen_next, ih hold_ws]

/-! ### NOP -/

theorem exec_nop (s : State) : exec .nop s = execNop s := rfl

theorem exec_nop_of_legal {s : State} (h : Legal s) : exec .nop s = .next s := by
  rw [exec_nop, execNop, onLegalStep_of_legal h]

/-- Settles O21: a strobeless word is NOP, which holds every legal state, whatever is queued. -/
theorem noEventHoldsTheState : Obligations.NoEventHoldsTheState := by
  intro s hs
  refine ⟨exec_nop_of_legal hs, fun ls rest => ?_⟩
  have hold : ∀ sw ∈ ls.map (stimOf false false false), ∀ q : List Stim,
      exec (decodeEvt sw) { s with stimulus := q } = .next { s with stimulus := q } := by
    intro sw hsw q
    obtain ⟨l, -, rfl⟩ := List.mem_map.1 hsw
    rw [decodeEvt_stimOf_no_strobe]
    exact exec_nop_of_legal hs
  simpa only [List.length_map] using runSteps_of_holding_words rest hold

end Sys2Proof.Machine
end

section
/-! The statements about the step operations (spec/41_step_ops.md): what a TICK performs at each value of STEP
(rules R90 to R111). The frozen meanings go step by step; here they are tied once to the kind that the lane table
gives the step, and each statement is read off the kind. -/

namespace Sys2Proof.Machine

/-! ### A step operation is the operation of its lane's kind, then the advance -/

/-- What a step of a kind does before the advance (rules R90 to R93); `performStep_of_lane` ties it to the model. -/
def kindOp (k : Kind) (l : Line) (s : State) : State :=
  match k with
  | .tgl => toggle s
  | .dir => sample .dir l s
  | .as => sample .as l s
  | .ext => sample .ext l s

@[simp] theorem kindOp_step (k : Kind) (l : Line) (s : State) : (kindOp k l s).step = s.step := by
  cases k <;> rfl

/-- The sampled mask of a kind; a toggle has no pairs, so it keeps MASK. -/
@[simp] theorem kindOp_mask (k : Kind) (l : Line) (s : State) :
    (kindOp k l s).mask = samplePairs (kindPairs k) l s.mask := by
  cases k <;> rfl

theorem kindOp_of_sampling {k : Kind} (h : k ≠ .tgl) (l : Line) (s : State) : kindOp k l s = sample k l s := by
  cases k with
  | tgl => exact absurd rfl h
  | dir | as | ext => rfl

theorem legal_of_lane {n : StepNo} {e : LaneEntry} (h : lane n = some e) : n.toNat ≤ 16 := by
  by_contra hn
  rw [lane_of_reserved (Nat.lt_of_not_le hn)] at h
  cases h

theorem lane_of_legal {n : StepNo} (h : n.toNat ≤ 16) : ∃ e, lane n = some e :=
  ⟨_, List.getElem?_eq_getElem (by rw [laneTable_length]; omega)⟩

theorem performStep_of_lane {s : State} {e : LaneEntry} (h : lane s.step = some e) (l : Line) :
    performStep l s = .next (advance (kindOp e.kind l s)) := by
  have hle : s.step.toNat ≤ 16 := legal_of_lane h
  unfold performStep
  split
  case h_18 =>
    simp only [imp_false] at *
    omega
  all_goals
    rename_i hstep
    rw [lane, hstep] at h
    cases h
    exact onLegalStep_of_legal hle _

/-- Below the last step the advance only counts. -/
theorem performStep_below {s : State} {e : LaneEntry} (h : lane s.step = some e) (hlt : s.step.toNat < 16)
    (l : Line) : performStep l s = .next { kindOp e.kind l s with step := s.step + 1 } := by
  have hadv := advance_below (s := kindOp e.kind l s) (by rwa [kindOp_step])
  rw [performStep_of_lane h, hadv, kindOp_step]

/-- At the last step it finalizes. -/
theorem performStep_last {s : State} (h : s.step = 16) (l : Line) :
    performStep l s = .next (finalize (sample .dir l s)) := by
  have hlane : lane s.step = some (laneEntry .dir true) := by rw [h, lane_sixteen]
  have hadv : advance (sample .dir l s) = finalize (sample .dir l s) := advance_at_last h
  rw [performStep_of_lane hlane, ← hadv]
  rfl

/-- The instruction that the value of STEP decodes to is the one a TICK performs (rule R83). -/
theorem exec_of_decode_step {s : State} {l : Line} {i : Instr} (h : decode (.stp s.step l) = .ok i) :
    exec i s = performStep l s := by
  rw [decode, decodeStep] at h
  split at h
  case h_18 => cases h
  all_goals
    rename_i hstep
    cases h
    rw [performStep, hstep]
    rfl

theorem exec_tck (l : Line) (s : State) : exec (.tck l) s = execTck l s := rfl

/-- An accepted TICK (rule R83). -/
theorem exec_tck_of_active {s : State} (hrun : s.run = true) (hle : Legal s) (l : Line) :
    exec (.tck l) s = performStep l s := by
  rw [exec_tck, execTck, onLegalStep_of_legal hle, tickEvent_active hrun]

/-! ### The toggle steps -/

theorem performStep_toggle {s : State} (hodd : s.step.toNat % 2 = 1) (hle : s.step.toNat ≤ 15) (l : Line) :
    performStep l s =
      .next { s with step := s.step + 1, sel := !s.sel, trace := s.trace ++ [.selWrite !s.sel] } :=
  performStep_below (lane_of_odd hodd hle) (by omega) l

/-- One odd step: the value of STEP decodes to its toggle, which does what the TICK there does. -/
theorem toggle_at {s : State} {n : StepNo} {i : Instr} {l : Line} (hn : s.step = n)
    (hdec : decode (.stp n l) = .ok i) (hodd : n.toNat % 2 = 1) (hle : n.toNat ≤ 15) :
    decode (.stp s.step l) = .ok i ∧
      exec i s = .next { s with step := n + 1, sel := !s.sel, trace := s.trace ++ [.selWrite !s.sel] } := by
  subst hn
  exact ⟨hdec, by rw [exec_of_decode_step hdec, performStep_toggle hodd hle]⟩

/-- Settles O15: each odd step is `toggle_at` its value of STEP; the level is INV3's. -/
theorem toggleStepsComplementTheSelectLine : Obligations.ToggleStepsComplementTheSelectLine := by
  intro s l hrun
  refine ⟨fun h => toggle_at h rfl rfl (by decide), fun h => toggle_at h rfl rfl (by decide),
    fun h => toggle_at h rfl rfl (by decide), fun h => toggle_at h rfl rfl (by decide),
    fun h => toggle_at h rfl rfl (by decide), fun h => toggle_at h rfl rfl (by decide),
    fun h => toggle_at h rfl rfl (by decide), fun h => toggle_at h rfl rfl (by decide), ?tick, ?level⟩
  case tick =>
    intro hodd hle
    rw [exec_tck_of_active hrun (by omega), performStep_toggle hodd hle]
  case level =>
    rintro ⟨-, -, inv3, -⟩ hodd
    have hsel : s.sel = true ↔ s.step.toNat % 4 = 0 ∨ s.step.toNat % 4 = 1 := inv3
    rw [Bool.not_eq_true', ← Bool.not_eq_true, hsel]
    omega

/-! ### The sampling steps below the last -/

theorem performStep_sampling {s : State} {k : Kind} {fin : Bool} {l : Line} {m : Mask} (hk : k ≠ .tgl)
    (hlane : lane s.step = some (laneEntry k fin)) (hlt : s.step.toNat < 16)
    (hm : samplePairs (kindPairs k) l s.mask = m) :
    performStep l s = .next { s with step := s.step + 1, mask := m } := by
  rw [performStep_below hlane hlt, laneEntry, kindOp_of_sampling hk, sample_eq, hm]

/-- One sampling step: the value of STEP decodes to its operation, which does what the TICK there does. -/
theorem sampling_at {s : State} {n : StepNo} {i : Instr} {k : Kind} {fin : Bool} {l : Line} {m : Mask}
    (hn : s.step = n) (hdec : decode (.stp n l) = .ok i) (hk : k ≠ .tgl)
    (hlane : lane n = some (laneEntry k fin)) (hlt : n.toNat < 16)
    (hm : samplePairs (kindPairs k) l s.mask = m) :
    decode (.stp s.step l) = .ok i ∧ exec i s = .next { s with step := n + 1, mask := m } := by
  subst hn
  exact ⟨hdec, by rw [exec_of_decode_step hdec, performStep_sampling hk hlane hlt hm]⟩

/-- An accepted TICK at a sampling step. -/
theorem exec_tck_sampling {s : State} {k : Kind} {fin : Bool} {l : Line} {m : Mask} (hrun : s.run = true)
    (hk : k ≠ .tgl) (hlane : lane s.step = some (laneEntry k fin)) (hlt : s.step.toNat < 16)
    (hm : samplePairs (kindPairs k) l s.mask = m) :
    exec (.tck l) s = .next { s with step := s.step + 1, mask := m } := by
  rw [exec_tck_of_active hrun (by omega), performStep_sampling hk hlane hlt hm]

theorem dir_steps_mod_four {n : StepNo} (h : n = 0 ∨ n = 4 ∨ n = 8) : n.toNat < 16 ∧ n.toNat % 4 = 0 := by
  obtain rfl | rfl | rfl := h <;> decide

theorem as_steps_mod_four {n : StepNo} (h : n = 2 ∨ n = 6 ∨ n = 10 ∨ n = 14) :
    n.toNat < 16 ∧ n.toNat % 4 = 2 := by
  obtain rfl | rfl | rfl | rfl := h <;> decide

/-- Settles O16: steps 0, 4 and 8 hold the directional lane; the level is INV3's. -/
theorem directionStepsSampleTheLowSixBits : Obligations.DirectionStepsSampleTheLowSixBits := by
  intro s l hrun
  have hm := samplePairs_dir l s.mask
  refine ⟨fun h => sampling_at h rfl (by decide) (lane_of_dir (by decide)) (by decide) hm,
    fun h => sampling_at h rfl (by decide) (lane_of_dir (by decide)) (by decide) hm,
    fun h => sampling_at h rfl (by decide) (lane_of_dir (by decide)) (by decide) hm, fun h => ?_⟩
  obtain ⟨hlt, hmod⟩ := dir_steps_mod_four h
  exact ⟨exec_tck_sampling hrun (by decide) (lane_of_dir h) hlt hm, fun ⟨_, _, inv3, _⟩ => inv3.2 (.inl hmod)⟩

/-- Settles O17: steps 2, 6, 10 and 14 hold the A/Start lane, whose vector form reads L[5:4] only; the level is
INV3's. -/
theorem startStepsSampleOnlyTheirTwoBits : Obligations.StartStepsSampleOnlyTheirTwoBits := by
  intro s l hrun
  have hm := samplePairs_as l s.mask
  refine ⟨fun h => sampling_at h rfl (by decide) (lane_of_as (by decide)) (by decide) hm,
    fun h => sampling_at h rfl (by decide) (lane_of_as (by decide)) (by decide) hm,
    fun h => sampling_at h rfl (by decide) (lane_of_as (by decide)) (by decide) hm,
    fun h => sampling_at h rfl (by decide) (lane_of_as (by decide)) (by decide) hm, fun h => ?_⟩
  obtain ⟨hlt, hmod⟩ := as_steps_mod_four h
  have htick : ∀ l' : Line, exec (.tck l') s = .next { s with
      step := s.step + 1, mask := s.mask.extractLsb' 8 4 ++ l'.extractLsb' 4 2 ++ s.mask.extractLsb' 0 6 } :=
    fun l' => exec_tck_sampling hrun (by decide) (lane_of_as h) hlt (samplePairs_as l' s.mask)
  refine ⟨htick l, fun l' hl' => ?same, fun ⟨_, _, inv3, _⟩ => ?low⟩
  case same => rw [htick l', htick l, hl']
  case low =>
    rw [← Bool.not_eq_true]
    exact fun hsel => absurd (inv3.1 hsel) (by omega)

/-! ### Bits 11 to 8 of MASK -/

theorem ext_lane_iff : ∀ n : StepNo, (lane n).map LaneEntry.kind = some .ext ↔ n = 12 := by decide

/-- Only the extended lane pairs a line with one of the buttons of bits 11 to 8 (rule R64). -/
theorem kindPairs_below_eight {k : Kind} (hk : k ≠ .ext) : ∀ q ∈ kindPairs k, buttonBit q.2 < 8 := by
  cases k with
  | tgl | dir | as => decide
  | ext => exact absurd rfl hk

theorem samplePairs_cons (q : LineName × Button) (ps : List (LineName × Button)) (l : Line) (m : Mask) :
    samplePairs (q :: ps) l m = samplePairs ps l (writeButton m q.2 (lineLevel l q.1)) := rfl

/-- A sampling leaves the bits of the buttons it does not list (rules R8, R63). -/
theorem samplePairs_getLsbD_of_unlisted {ps : List (LineName × Button)} {i : Nat}
    (h : ∀ q ∈ ps, i ≠ buttonBit q.2) (l : Line) (m : Mask) :
    (samplePairs ps l m).getLsbD i = m.getLsbD i := by
  induction ps generalizing m with
  | nil => rfl
  | cons q ps ih =>
    obtain ⟨hq, hps⟩ := List.forall_mem_cons.1 h
    rw [samplePairs_cons, ih hps, writeButton_getLsbD, if_neg hq]

theorem samplePairs_keeps_high {k : Kind} (hk : k ≠ .ext) (l : Line) (m : Mask) :
    (samplePairs (kindPairs k) l m).extractLsb' 8 4 = m.extractLsb' 8 4 := by
  apply BitVec.eq_of_getLsbD_eq
  intro i hi
  have hunlisted : ∀ q ∈ kindPairs k, 8 + i ≠ buttonBit q.2 := fun q hq => by
    have := kindPairs_below_eight hk q hq
    omega
  rw [BitVec.getLsbD_extractLsb', BitVec.getLsbD_extractLsb', samplePairs_getLsbD_of_unlisted hunlisted]

@[simp] theorem finalize_mask (s : State) : (finalize s).mask = s.mask := by rw [finalize_eq]

/-- The advance, finalizing or not, keeps MASK (rules R94 and R127). -/
@[simp] theorem advance_mask (s : State) : (advance s).mask = s.mask := by
  rw [advance]
  split
  · exact finalize_mask s
  · rfl

theorem performStep_mask {s t : State} {e : LaneEntry} {l : Line} (hlane : lane s.step = some e)
    (h : performStep l s = .next t) : t.mask = samplePairs (kindPairs e.kind) l s.mask := by
  rw [performStep_of_lane hlane] at h
  cases h
  rw [advance_mask, kindOp_mask]

/-- Settles O18: step 12 holds the extended lane, and no other step does. -/
theorem extendedStepSamplesZyxModeAndBc : Obligations.ExtendedStepSamplesZyxModeAndBc := by
  intro s l hrun
  constructor
  · intro h
    obtain ⟨hdec, hexec⟩ :=
      sampling_at (l := l) h rfl (by decide) lane_twelve (by decide) (samplePairs_ext l s.mask)
    have hle : Legal s := by rw [Legal, h]; decide
    refine ⟨hdec, hexec, ?tick, fun ⟨_, _, inv3, _⟩ => inv3.2 (.inl (by rw [h]; rfl))⟩
    rw [exec_tck_of_active hrun hle, exec_of_decode_step hdec]
  · intro hne t ht
    obtain ⟨hle, -⟩ := onLegalStep_eq_next.1 ht
    obtain ⟨e, he⟩ := lane_of_legal hle
    have hk : e.kind ≠ .ext := fun hk => hne ((ext_lane_iff s.step).1 (by rw [he, ← hk]; rfl))
    rw [exec_tck_of_active hrun hle] at ht
    rw [performStep_mask he ht, samplePairs_keeps_high hk]

/-! ### The last step: what finalization computes, and from which mask -/

/-- The truth table of rule R121 as its two conditions. -/
theorem axisByte_eq_ite (neg pos : Bool) :
    axisByte neg pos = if neg && !pos then 0x80 else if pos && !neg then 0x7F else 0x00 := by
  cases neg <;> cases pos <;> rfl

theorem buttonsByte_eq_slice (m : Mask) : buttonsByte m = m.extractLsb' 4 8 := by
  ext i hi
  simp [buttonsByte, btnShift]

theorem indicatorLevel_eq_decide (m : Mask) : indicatorLevel m = decide (m ≠ 0) := by
  rw [indicatorLevel, bne, decide_not]
  rfl

/-- Settles O19: the advance at 16 is `finalize` of the sampled state, so the report is computed from the new MASK;
the level is INV3's. -/
theorem lastStepSamplesThenFinalizes : Obligations.LastStepSamplesThenFinalizes := by
  intro s l m hrun h hm
  have hdec : decode (.stp s.step l) = .ok (.s16Dirfin l) := by rw [h]; rfl
  have hle : Legal s := by rw [Legal, h]; decide
  refine ⟨hdec, ?exec, ?tick, fun ⟨_, _, inv3, _⟩ => inv3.2 (.inl (by rw [h]; rfl))⟩
  case exec =>
    rw [exec_of_decode_step hdec, performStep_last h, sample_eq, samplePairs_dir, ← hm, finalize_eq]
    simp only [indicatorLevel_eq_decide, buttonsByte_eq_slice, axisX, axisY, axisByte_eq_ite, readButton, buttonBit]
  case tick => rw [exec_tck_of_active hrun hle, exec_of_decode_step hdec]

end Sys2Proof.Machine
end

section
/-! The statements about the finalizer's functions (spec/42_finalizer.md): the axis bytes (rules R121, R122, R123). -/

namespace Sys2Proof.Machine

/-- Opposing directions cancel: both set gives the same 0 as neither set (rule R121). -/
theorem axisByte_self (b : Bool) : axisByte b b = 0x00 := by
  cases b <;> rfl

theorem axisByte_neg_alone : axisByte true false = axisNeg := rfl

theorem axisByte_pos_alone : axisByte false true = axisPos := rfl

/-- The extremes as signed bytes (rule R67). -/
theorem axisNeg_toInt : axisNeg.toInt = -128 := by decide

theorem axisPos_toInt : axisPos.toInt = 127 := by decide

/-- Up is bit 0 and Down bit 1 of MASK. -/
theorem axisY_eq_axisByte_bits (m : Mask) : axisY m = axisByte (m.getLsbD 0) (m.getLsbD 1) := rfl

/-- Left is bit 2 and Right bit 3 of MASK. -/
theorem axisX_eq_axisByte_bits (m : Mask) : axisX m = axisByte (m.getLsbD 2) (m.getLsbD 3) := rfl

/-- Settles O26: one direction alone gives its extreme, equal directions cancel, and each axis reads its two bits. -/
theorem axisBytesFollowTheTruthTable : Obligations.AxisBytesFollowTheTruthTable := by
  refine ⟨axisByte_self false, axisByte_neg_alone, axisByte_pos_alone, axisByte_self true, ?neg, ?pos,
    axisY_eq_axisByte_bits, axisX_eq_axisByte_bits⟩
  case neg => rw [axisByte_neg_alone, axisNeg_toInt]
  case pos => rw [axisByte_pos_alone, axisPos_toInt]

end Sys2Proof.Machine
end

section
/-! The statements about exceptions (spec/60_exceptions.md): the block has none, and its one refusal is of the
reserved values of STEP (rule R130); a tick source that stops holds the cycle where it stands (rule R147). -/

namespace Sys2Proof.Machine

/-! ### A meaning completes on a legal STEP and is refused on a reserved one -/

theorem tickEvent_completes {s : State} (h : Legal s) (l : Line) : ∃ t, tickEvent l s = .next t := by
  cases hrun : s.run with
  | false => exact ⟨s, tickEvent_idle hrun l⟩
  | true =>
    obtain ⟨e, hlane⟩ := lane_of_legal h
    exact ⟨_, (tickEvent_active hrun l).trans (performStep_of_lane hlane l)⟩

/-- Every meaning is the test on STEP and, behind it, a continuation that completes on a legal one. Only TCK and TB
have a continuation that could answer something else than a next state: the TICK. -/
theorem exec_eq_onLegalStep (i : Instr) (s : State) :
    ∃ f, exec i s = onLegalStep s f ∧ (Legal s → ∃ t, f s = .next t) := by
  cases i with
  | s0Dir l | s4Dir l | s8Dir l | s16Dirfin l =>
    exact ⟨fun s => .next (advance (sample .dir l s)), rfl, fun _ => ⟨_, rfl⟩⟩
  | s2As l | s6As l | s10As l | s14As l =>
    exact ⟨fun s => .next (advance (sample .as l s)), rfl, fun _ => ⟨_, rfl⟩⟩
  | s12Ext l => exact ⟨fun s => .next (advance (sample .ext l s)), rfl, fun _ => ⟨_, rfl⟩⟩
  | s1Tgl | s3Tgl | s5Tgl | s7Tgl | s9Tgl | s11Tgl | s13Tgl | s15Tgl =>
    exact ⟨fun s => .next (advance (toggle s)), rfl, fun _ => ⟨_, rfl⟩⟩
  | rst => exact ⟨fun s => .next (resetRegisters s), rfl, fun _ => ⟨_, rfl⟩⟩
  | nop => exact ⟨.next, rfl, fun _ => ⟨_, rfl⟩⟩
  | beg => exact ⟨fun s => .next (beginCycle s), rfl, fun _ => ⟨_, rfl⟩⟩
  | tck l => exact ⟨tickEvent l, rfl, fun h => tickEvent_completes h l⟩
  | tb l =>
    refine ⟨fun s => andThen (tickEvent l s) fun t => .next (beginCycle t), rfl, fun h => ?_⟩
    obtain ⟨t, ht⟩ := tickEvent_completes h l
    exact ⟨beginCycle t, andThen_eq_next.2 ⟨t, ht, rfl⟩⟩

theorem exec_completes_of_legal (i : Instr) {s : State} (h : Legal s) : ∃ t, exec i s = .next t := by
  obtain ⟨f, hf, completes⟩ := exec_eq_onLegalStep i s
  rw [hf, onLegalStep_of_legal h]
  exact completes h

theorem exec_of_reserved (i : Instr) {s : State} (h : 16 < s.step.toNat) : exec i s = .refused .reservedStep := by
  obtain ⟨f, hf, -⟩ := exec_eq_onLegalStep i s
  rw [hf, onLegalStep_of_reserved h]

/-! ### A step of the machine: taking the word leaves STEP as it is -/

theorem takeStimulus_step (s : State) : (takeStimulus s).2.step = s.step := (takeStimulus_keeps s).1

theorem step_completes_of_legal {s : State} (h : Legal s) : ∃ t, step s = .next t :=
  exec_completes_of_legal _ (by rwa [Legal, takeStimulus_step])

theorem step_of_reserved {s : State} (h : 16 < s.step.toNat) : step s = .refused .reservedStep :=
  exec_of_reserved _ (by rwa [takeStimulus_step])

/-- Settles O11: there is no fault to answer; a legal STEP has a next state, which is no refusal, and a reserved one is
refused as such; INV1 is legality. -/
theorem onlyReservedStepsAreRefused : Obligations.OnlyReservedStepsAreRefused := by
  intro s
  refine ⟨?no_fault, ?refused, fun ⟨inv1, _⟩ => step_completes_of_legal inv1⟩
  case no_fault => exact fun f => nomatch f
  case refused =>
    intro r
    obtain hle | hlt := le_or_gt s.step.toNat 16
    · obtain ⟨t, ht⟩ := step_completes_of_legal hle
      simp [ht, hle]
    · simp [step_of_reserved hlt, hlt, eq_comm]

/-! ### A stalled tick source -/

/-- A word with neither rst nor tick set is NOP or BEG, as its begin bit says (rule R71). -/
theorem decodeEvt_of_no_rst_no_tick {sw : Stim} (hrst : sw.getLsbD 8 = false) (htick : sw.getLsbD 6 = false) :
    decodeEvt sw = .nop ∨ decodeEvt sw = .beg := by
  cases hbeg : sw.getLsbD 7 with
  | false => left; rw [decodeEvt, hrst, hbeg, htick]; rfl
  | true => right; rw [decodeEvt, hrst, hbeg, htick]; rfl

/-- An active block ignores BEG (rule R82). -/
theorem exec_beg_of_active {s : State} (h : Legal s) (hrun : s.run = true) : exec .beg s = .next s := by
  rw [exec_beg_of_legal h, beginCycle_active hrun]

/-- Settles O38: each such word is NOP or a BEGIN in mid-cycle, and both hold the state. -/
theorem stalledTickSourceHoldsTheCycle : Obligations.StalledTickSourceHoldsTheCycle := by
  intro s ws rest hs hrun hwords
  refine runSteps_of_holding_words rest fun sw hsw q => ?_
  obtain ⟨hrst, htick⟩ := hwords sw hsw
  obtain hnop | hbeg := decodeEvt_of_no_rst_no_tick hrst htick
  · rw [hnop]; exact exec_nop_of_legal hs
  · rw [hbeg]; exact exec_beg_of_active hs hrun

end Sys2Proof.Machine
end

section
/-! What one event of the EVT format can do to a state, said once for all five events (rules R81 to R86): the
statements about the invariants, the modes, the trace and the cycle are read off its seven outcomes. -/

namespace Sys2Proof.Machine

/-! ### A step takes the presented word and touches no register in doing so -/

theorem step_eq_exec_presented (s : State) : step s = exec (presented s) (takeStimulus s).2 := rfl

theorem takeStimulus_sel (s : State) : (takeStimulus s).2.sel = s.sel :=
  let ⟨_, hsel, _⟩ := takeStimulus_keeps s; hsel

theorem takeStimulus_run (s : State) : (takeStimulus s).2.run = s.run :=
  let ⟨_, _, hrun, _⟩ := takeStimulus_keeps s; hrun

theorem takeStimulus_mask (s : State) : (takeStimulus s).2.mask = s.mask :=
  let ⟨_, _, _, hmask, _⟩ := takeStimulus_keeps s; hmask

theorem takeStimulus_act (s : State) : (takeStimulus s).2.act = s.act :=
  let ⟨_, _, _, _, hact, _⟩ := takeStimulus_keeps s; hact

theorem takeStimulus_trace (s : State) : (takeStimulus s).2.trace = s.trace :=
  let ⟨_, _, _, _, _, htrace⟩ := takeStimulus_keeps s; htrace

/-! ### Which events contain a TICK -/

theorem hasTick_iff (i : Instr) : hasTick i = true ↔ ∃ l, i = .tck l ∨ i = .tb l := by
  cases i <;> simp [hasTick]

theorem isEvent_decodeEvt (sw : Stim) : (decodeEvt sw).isEvent = true := by
  unfold decodeEvt
  split
  · rfl
  · split <;> rfl

theorem isEvent_presented (s : State) : (presented s).isEvent = true := isEvent_decodeEvt _

/-! ### The lane of an even step -/

theorem lane_of_even {n : StepNo} (heven : n.toNat % 2 = 0) (hlt : n.toNat < 16) :
    ∃ k, k ≠ .tgl ∧ lane n = some (laneEntry k false) := by
  have hsteps : (n = 0 ∨ n = 4 ∨ n = 8) ∨ (n = 2 ∨ n = 6 ∨ n = 10 ∨ n = 14) ∨ n = 12 := by
    bv_omega
  obtain hdir | has | rfl := hsteps
  · exact ⟨.dir, by decide, lane_of_dir hdir⟩
  · exact ⟨.as, by decide, lane_of_as has⟩
  · exact ⟨.ext, by decide, lane_twelve⟩

/-! ### The step operation of an accepted TICK, in three cases -/

theorem step_eq_sixteen_iff (s : State) : s.step = 16 ↔ s.step.toNat = 16 :=
  ⟨fun h => by rw [h]; rfl, fun h => BitVec.eq_of_toNat_eq h⟩

theorem step_succ_toNat {n : StepNo} (h : n.toNat < 16) : (n + 1).toNat = n.toNat + 1 := by
  rw [BitVec.toNat_add, show (1 : StepNo).toNat = 1 from rfl]
  omega

/-- The mask that the last step leaves is the one the indicator and the report are computed from (rules R111, R120). -/
theorem performStep_finish {s : State} {l : Line} {m : Mask} (h : s.step = 16)
    (hm : m = samplePairs dirPairs l s.mask) :
    performStep l s = .next { s with
      step := 0, sel := true, run := false, mask := m, act := decide (m ≠ 0)
      trace := s.trace ++
        [.actWrite (decide (m ≠ 0)), .report (axisX m) (axisY m) (buttonsByte m)] } := by
  subst hm
  rw [performStep_last h, sample_eq, finalize_eq]
  simp only [indicatorLevel_eq_decide, kindPairs]

/-! ### The outcomes of an event -/

/-- What an event does to a state: the seven cases of rules R81 to R86. A BEGIN at the edge of a finalizing TICK arms
the next cycle (rule R86 case b), at any other accepted TICK it is lost. `exec_event_iff` ties this to the model. -/
inductive EventOutcome (i : Instr) (s : State) : State → Prop where
  | reset (hi : i = .rst) :
      EventOutcome i s { s with step := 0, sel := true, run := false, mask := 0, act := false }
  | idleHold (hi : i ≠ .rst) (hbeg : hasBegin i = false) (hrun : s.run = false) : EventOutcome i s s
  | arm (hbeg : hasBegin i = true) (hrun : s.run = false) :
      EventOutcome i s { s with step := 0, sel := true, run := true }
  | activeHold (hi : i ≠ .rst) (htick : hasTick i = false) (hrun : s.run = true) : EventOutcome i s s
  | toggle (htick : hasTick i = true) (hrun : s.run = true) (hodd : s.step.toNat % 2 = 1) (hlt : s.step.toNat < 16) :
      EventOutcome i s { s with step := s.step + 1, sel := !s.sel, trace := s.trace ++ [.selWrite !s.sel] }
  | sampling (l : Line) (k : Kind) (hi : i = .tck l ∨ i = .tb l) (hrun : s.run = true)
      (heven : s.step.toNat % 2 = 0) (hlt : s.step.toNat < 16) (hk : k ≠ .tgl)
      (hlane : lane s.step = some (laneEntry k false)) :
      EventOutcome i s { s with step := s.step + 1, mask := samplePairs (kindPairs k) l s.mask }
  | finish (l : Line) (m : Mask) (hi : i = .tck l ∨ i = .tb l) (hrun : s.run = true) (hstep : s.step = 16)
      (hm : m = samplePairs dirPairs l s.mask) :
      EventOutcome i s { s with
        step := 0, sel := true, run := hasBegin i, mask := m, act := decide (m ≠ 0)
        trace := s.trace ++
          [.actWrite (decide (m ≠ 0)), .report (axisX m) (axisY m) (buttonsByte m)] }

theorem exec_rst (s : State) : exec .rst s = execRst s := rfl

theorem exec_rst_of_legal {s : State} (h : Legal s) :
    exec .rst s = .next { s with step := 0, sel := true, run := false, mask := 0, act := false } := by
  rw [exec_rst, execRst, onLegalStep_of_legal h, resetRegisters_eq]

theorem exec_tck_of_legal {s : State} (h : Legal s) (l : Line) : exec (.tck l) s = tickEvent l s := by
  rw [exec_tck, execTck, onLegalStep_of_legal h]

theorem exec_tb (l : Line) (s : State) : exec (.tb l) s = execTb l s := rfl

/-- TB is the TICK and then the BEGIN (rule R86). -/
theorem exec_tb_of_legal {s : State} (h : Legal s) (l : Line) :
    exec (.tb l) s = andThen (exec (.tck l) s) fun t => .next (beginCycle t) := by
  rw [exec_tb, execTb, onLegalStep_of_legal h, exec_tck_of_legal h]

/-- An accepted TICK is its step operation, with the BEGIN behind it where one is presented (rules R83, R86). -/
theorem exec_of_performStep {i : Instr} {s t : State} {l : Line} (hi : i = .tck l ∨ i = .tb l) (hs : Legal s)
    (hrun : s.run = true) (h : performStep l s = .next t) :
    exec i s = .next (if hasBegin i then beginCycle t else t) := by
  obtain rfl | rfl := hi
  · rw [exec_tck_of_active hrun hs, h]; rfl
  · rw [exec_tb_of_legal hs, exec_tck_of_active hrun hs, h]; rfl

/-- A BEGIN behind a TICK that leaves the block active has no effect. -/
theorem exec_of_performStep_active {i : Instr} {s t : State} {l : Line} (hi : i = .tck l ∨ i = .tb l) (hs : Legal s)
    (hrun : s.run = true) (h : performStep l s = .next t) (ht : t.run = true) : exec i s = .next t := by
  rw [exec_of_performStep hi hs hrun h, beginCycle_active ht, ite_self]

/-- While idle an event that is no RESET counts by its BEGIN alone (rules R82, R84, R86 case c). -/
theorem exec_of_idle {i : Instr} {s : State} (hi : i.isEvent = true) (hne : i ≠ .rst) (hs : Legal s)
    (hrun : s.run = false) : exec i s = .next (if hasBegin i then beginCycle s else s) := by
  cases i with
  | rst => exact absurd rfl hne
  | nop => exact exec_nop_of_legal hs
  | beg => exact exec_beg_of_legal hs
  | tck l => rw [exec_tck_of_legal hs, tickEvent_idle hrun]; rfl
  | tb l => rw [exec_tb_of_legal hs, exec_tck_of_legal hs, tickEvent_idle hrun]; rfl
  | _ => cases hi

/-- While active an event with neither RESET nor TICK holds the state (rules R82, R85). -/
theorem exec_of_active_no_tick {i : Instr} {s : State} (hi : i.isEvent = true) (hne : i ≠ .rst)
    (htick : hasTick i = false) (hs : Legal s) (hrun : s.run = true) : exec i s = .next s := by
  cases i with
  | rst => exact absurd rfl hne
  | nop => exact exec_nop_of_legal hs
  | beg => exact exec_beg_of_active hs hrun
  | tck l | tb l => cases htick
  | _ => cases hi

theorem exec_of_outcome {i : Instr} {s t : State} (hi : i.isEvent = true) (hs : Legal s)
    (h : EventOutcome i s t) : exec i s = .next t := by
  cases h with
  | reset hrst => rw [hrst, exec_rst_of_legal hs]
  | idleHold hne hbeg hrun => rw [exec_of_idle hi hne hs hrun, hbeg]; rfl
  | arm hbeg hrun =>
    have hne : i ≠ .rst := by rintro rfl; cases hbeg
    rw [exec_of_idle hi hne hs hrun, if_pos hbeg, beginCycle_idle hrun]
  | activeHold hne htick hrun => exact exec_of_active_no_tick hi hne htick hs hrun
  | toggle htick hrun hodd hlt =>
    obtain ⟨l, hl⟩ := (hasTick_iff i).1 htick
    exact exec_of_performStep_active hl hs hrun (performStep_toggle hodd (by omega) l) hrun
  | sampling l k hl hrun _ hlt hk hlane =>
    exact exec_of_performStep_active hl hs hrun (performStep_sampling hk hlane hlt rfl) hrun
  | finish l m hl hrun hstep hm =>
    rw [exec_of_performStep hl hs hrun (performStep_finish hstep hm)]
    cases hbeg : hasBegin i with
    | false => rfl
    | true => rw [beginCycle_idle rfl]; rfl

/-- Some case applies to every event on every legal state. -/
theorem eventOutcome_exists (i : Instr) {s : State} (hs : Legal s) : ∃ t, EventOutcome i s t := by
  by_cases hrst : i = .rst
  · exact ⟨_, .reset hrst⟩
  cases hrun : s.run with
  | false =>
    cases hbeg : hasBegin i with
    | false => exact ⟨_, .idleHold hrst hbeg hrun⟩
    | true => exact ⟨_, .arm hbeg hrun⟩
  | true =>
    cases htick : hasTick i with
    | false => exact ⟨_, .activeHold hrst htick hrun⟩
    | true =>
      obtain ⟨l, hl⟩ := (hasTick_iff i).1 htick
      obtain hlast | hlt := Nat.eq_or_lt_of_le hs
      · exact ⟨_, .finish l _ hl hrun ((step_eq_sixteen_iff s).2 hlast) rfl⟩
      obtain heven | hodd := Nat.mod_two_eq_zero_or_one s.step.toNat
      · obtain ⟨k, hk, hlane⟩ := lane_of_even heven hlt
        exact ⟨_, .sampling l k hl hrun heven hlt hk hlane⟩
      · exact ⟨_, .toggle htick hrun hodd hlt⟩

theorem legal_of_exec {i : Instr} {s t : State} (h : exec i s = .next t) : Legal s := by
  by_contra hs
  rw [exec_of_reserved i (Nat.lt_of_not_le hs)] at h
  cases h

/-- The outcomes are exactly what the model answers for an event. -/
theorem exec_event_iff {i : Instr} {s t : State} (hi : i.isEvent = true) :
    exec i s = .next t ↔ Legal s ∧ EventOutcome i s t := by
  refine ⟨fun h => ?_, fun ⟨hs, ht⟩ => exec_of_outcome hi hs ht⟩
  have hs := legal_of_exec h
  obtain ⟨u, hu⟩ := eventOutcome_exists i hs
  rw [exec_of_outcome hi hs hu] at h
  cases h
  exact ⟨hs, hu⟩

/-- A step has an outcome of the presented event on the state that has taken its word. -/
theorem step_outcome {s t : State} (h : step s = .next t) : EventOutcome (presented s) (takeStimulus s).2 t := by
  rw [step_eq_exec_presented] at h
  exact ((exec_event_iff (isEvent_presented s)).1 h).2

end Sys2Proof.Machine
end

section
/-! The statements about reset and the invariants of the reachable states (spec/10_state.md, rules R31 and R32). -/

namespace Sys2Proof.Machine

/-- Taking the presented word keeps the invariants, which speak of the registers only. -/
theorem invariant_takeStimulus_iff (s : State) : Invariant (takeStimulus s).2 ↔ Invariant s := by
  simp only [Invariant, Inv1, Inv2, Inv3, Inv4, takeStimulus_step, takeStimulus_sel, takeStimulus_run,
    takeStimulus_mask, takeStimulus_act]

theorem EventOutcome.keeps_invariant {i : Instr} {s t : State} (h : EventOutcome i s t) (hs : Invariant s) :
    Invariant t := by
  obtain ⟨inv1, inv2, inv3, inv4⟩ := hs
  cases h with
  | reset => exact ⟨Nat.zero_le 16, fun _ => ⟨rfl, rfl⟩, by simp [Inv3], fun _ => rfl⟩
  | idleHold | activeHold => exact ⟨inv1, inv2, inv3, inv4⟩
  | arm => exact ⟨Nat.zero_le 16, by simp [Inv2], by simp [Inv3], by simp [Inv4]⟩
  | toggle _ hrun hodd hlt =>
    have hsucc := step_succ_toNat hlt
    refine ⟨?inv1, by simp [Inv2, hrun], ?inv3, by simp [Inv4, hrun]⟩
    case inv1 => rw [Inv1, hsucc]; omega
    case inv3 =>
      have hsel : s.sel = true ↔ s.step.toNat % 4 = 0 ∨ s.step.toNat % 4 = 1 := inv3
      simp only [Inv3, hsucc, Bool.not_eq_true', ← Bool.not_eq_true, hsel]
      omega
  | sampling _ _ _ hrun heven hlt =>
    have hsucc := step_succ_toNat hlt
    refine ⟨?inv1, by simp [Inv2, hrun], ?inv3, by simp [Inv4, hrun]⟩
    case inv1 => rw [Inv1, hsucc]; omega
    case inv3 =>
      have hsel : s.sel = true ↔ s.step.toNat % 4 = 0 ∨ s.step.toNat % 4 = 1 := inv3
      simp only [Inv3, hsucc, hsel]
      omega
  | finish => exact ⟨Nat.zero_le 16, fun _ => ⟨rfl, rfl⟩, by simp [Inv3], fun _ => rfl⟩

/-- Settles O3: each outcome of the presented event keeps the four invariants. -/
theorem stepKeepsTheInvariant : Obligations.StepKeepsTheInvariant :=
  fun s _ hs h => (step_outcome h).keeps_invariant ((invariant_takeStimulus_iff s).2 hs)

/-- Settles O2: reset is idle at step 0 with SEL HIGH, MASK zero and ACT inactive. -/
theorem invariantHoldsAtReset : Obligations.InvariantHoldsAtReset :=
  ⟨by decide, fun _ => ⟨rfl, rfl⟩, by decide, fun _ => rfl⟩

/-- An idle block has nothing to finalize. -/
theorem finalizingTick_of_idle {s : State} (hrun : s.run = false) (sw : Stim) : finalizingTick sw s = false := by
  rw [finalizingTick, hrun, Bool.and_false, Bool.false_and]

/-- Settles O1: the registers are those of `State.reset`, the level outputs follow them, and an idle block presents no
report. -/
theorem resetHoldsTheSpecsValues : Obligations.ResetHoldsTheSpecsValues :=
  ⟨rfl, rfl, rfl, rfl, rfl, rfl, fun sw => ⟨rfl, rfl, rfl, finalizingTick_of_idle rfl sw⟩⟩

end Sys2Proof.Machine
end

section
/-! The statements about the encodings (spec/30_encoding.md): the STEP format (rules R61, R62, R69), the EVT format
(rules R70, R71) and their containers. -/

namespace Sys2Proof.Machine

/-! ### The stimulus word and its strobes -/

theorem stimLine_stimOf (rst beg tick : Bool) (l : Line) : stimLine (stimOf rst beg tick l) = l := by
  apply BitVec.eq_of_getLsbD_eq
  intro i hi
  rw [stimLine, BitVec.getLsbD_extractLsb', stimOf_getLsbD]
  simp [hi]

theorem decodeEvt_stimOf_rst (beg tick : Bool) (l : Line) : decodeEvt (stimOf true beg tick l) = .rst := by
  rw [decodeEvt, stimOf_rst, if_pos rfl]

/-- Without rst, begin and tick select the event (rule R71). -/
theorem decodeEvt_stimOf (beg tick : Bool) (l : Line) :
    decodeEvt (stimOf false beg tick l) =
      match beg, tick with
      | false, false => .nop
      | false, true => .tck l
      | true, false => .beg
      | true, true => .tb l := by
  rw [decodeEvt, stimOf_rst, stimOf_beg, stimOf_tick, stimLine_stimOf]
  rfl

/-- A stimulus word has no bit beside its strobes and its lines. -/
theorem stimOf_fields (sw : Stim) :
    stimOf (sw.getLsbD 8) (sw.getLsbD 7) (sw.getLsbD 6) (sw.extractLsb' 0 6) = sw := by
  apply BitVec.eq_of_getLsbD_eq
  intro i hi
  rw [stimOf_getLsbD]
  interval_cases i <;> simp

/-- Settles O5: reassembly from the four fields, and the strobes' case distinction. -/
theorem stimulusStrobesSelectTheEvent : Obligations.StimulusStrobesSelectTheEvent :=
  ⟨stimOf_fields, fun b7 b6 l => ⟨decodeEvt_stimOf_rst b7 b6 l, decodeEvt_stimOf false false l,
    decodeEvt_stimOf false true l, decodeEvt_stimOf true false l, decodeEvt_stimOf true true l⟩⟩

theorem decode_evt (sw : Stim) : decode (.evt sw) = .ok (decodeEvt sw) := rfl

/-- Settles O4: a step operation's code is its place in the step map, and an event's strobes select it again. -/
theorem decodeOfEncodeIsTheInstruction : Obligations.DecodeOfEncodeIsTheInstruction := by
  intro i
  cases i with
  | rst => rw [encode, decode_evt, decodeEvt_stimOf_rst]
  | nop | beg => rw [encode, decode_evt, decodeEvt_stimOf]
  | tck l | tb l => rw [encode, decode_evt, decodeEvt_stimOf]
  | _ => rfl

/-! ### The values of STEP -/

theorem decode_stp_of_legal {st : StepNo} (h : st.toNat ≤ 16) (l : Line) :
    ∃ i, decode (.stp st l) = .ok i ∧ i.isEvent = false ∧
      encode i = .stp st (if st.toNat % 2 = 0 then l else 0) := by
  have hst : st = BitVec.ofNat 5 st.toNat := by rw [BitVec.ofNat_toNat, BitVec.setWidth_eq]
  generalize st.toNat = n at h hst
  subst hst
  interval_cases n <;> exact ⟨_, rfl, rfl, rfl⟩

theorem decode_stp_of_reserved {st : StepNo} (h : 16 < st.toNat) (l : Line) :
    decode (.stp st l) = .error (.reservedStep st) := by
  rw [decode, decodeStep]
  split
  case h_18 => rfl
  all_goals omega

/-- Settles O6: the seventeen legal values one by one, and the decoder's last branch for the others. -/
theorem stepValuesSelectTheStepOperation : Obligations.StepValuesSelectTheStepOperation :=
  fun _ l => ⟨fun h => decode_stp_of_legal h l, fun h => decode_stp_of_reserved h l⟩

/-- Settles O7: each word by evaluation of the decoder. -/
theorem tableWordsDecodeToTheirInstructions : Obligations.TableWordsDecodeToTheirInstructions :=
  ⟨rfl, rfl, rfl, rfl, rfl, rfl, rfl, rfl, rfl, rfl⟩

end Sys2Proof.Machine
end

section
/-! The statements about one step and one event (spec/20_memory.md section 3, spec/40_events.md): which instruction a
step executes, when it completes, and what RESET, an idle TICK, an accepted TICK and TB do (rules R81 to R86, R94). -/

namespace Sys2Proof.Machine

/-! ### The instruction a step executes -/

/-- Settles O8: taking a queued word is taking the first of the queue. -/
theorem stepExecutesTheQueuedWord : Obligations.StepExecutesTheQueuedWord := by
  intro s sw rest i hqueue hdec
  rw [decode_evt] at hdec
  cases hdec
  rw [step, takeStimulus_queued hqueue]

/-- Settles O9: with the queue empty the word taken is the free one. -/
theorem stepExecutesAFreeWordWhenNoneIsQueued : Obligations.StepExecutesAFreeWordWhenNoneIsQueued := by
  intro s hqueue
  rw [step, takeStimulus_free hqueue]

theorem legal_of_decode_stp {st : StepNo} {l : Line} {i : Instr} (h : decode (.stp st l) = .ok i) :
    st.toNat ≤ 16 := by
  by_contra hst
  rw [decode_stp_of_reserved (Nat.lt_of_not_le hst)] at h
  cases h

/-- A TICK performs the step operation that STEP decodes to (rule R83). -/
theorem exec_tck_of_decode {s : State} {l : Line} {i : Instr} (hrun : s.run = true)
    (h : decode (.stp s.step l) = .ok i) : exec (.tck l) s = exec i s := by
  rw [exec_tck_of_active hrun (legal_of_decode_stp h), exec_of_decode_step h]

theorem decodeEvt_tickWord : decodeEvt tickWord = .tck 0 := rfl

theorem decodeTableWord_eq_some {nbits w : Nat} {i : Instr} (h : decodeTableWord nbits w = some i) :
    ∃ word, wordOfContainer nbits w = .ok word ∧ decode word = .ok i := by
  rw [decodeTableWord] at h
  split at h
  case h_1 => cases h
  case h_2 word hword =>
    split at h
    case h_1 => cases h
    case h_2 hdec => cases h; exact ⟨word, hword, hdec⟩

/-- One byte holds a value of STEP, with the line vector zero. -/
theorem decode_of_byte {nbits w : Nat} {i : Instr} (hn : nbits ≤ 8) (h : decodeTableWord nbits w = some i) :
    decode (.stp (BitVec.ofNat 5 w) 0) = .ok i := by
  obtain ⟨word, hword, hdec⟩ := decodeTableWord_eq_some h
  rw [wordOfContainer, if_pos hn] at hword
  split at hword
  · cases hword; exact hdec
  · cases hword

/-- Two bytes hold a stimulus word. -/
theorem decodeEvt_of_two_bytes {nbits w : Nat} {i : Instr} (hn : 8 < nbits) (h : decodeTableWord nbits w = some i) :
    decodeEvt (BitVec.ofNat 9 w) = i := by
  obtain ⟨word, hword, hdec⟩ := decodeTableWord_eq_some h
  rw [wordOfContainer, if_neg (Nat.not_le_of_lt hn)] at hword
  split at hword
  · split at hword
    · cases hword; cases hdec; rfl
    · cases hword
  · cases hword

theorem withFetchWord_byte {nbits : Nat} (hn : nbits ≤ 8) (w : Nat) (s : State) :
    s.withFetchWord nbits w =
      { s with step := BitVec.ofNat 5 w, run := true, stimulus := tickWord :: s.stimulus } := by
  rw [State.withFetchWord, placeWord, if_pos hn]

theorem withFetchWord_two_bytes {nbits : Nat} (hn : 8 < nbits) (w : Nat) (s : State) :
    s.withFetchWord nbits w = { s with stimulus := BitVec.ofNat 9 w :: s.stimulus } := by
  rw [State.withFetchWord, placeWord, if_neg (Nat.not_le_of_lt hn)]

/-- Settles O10: a placed step operation is performed by the TICK queued with it, a placed stimulus word is the next
word taken. -/
theorem placedWordIsExecutedNext : Obligations.PlacedWordIsExecutedNext := by
  intro s nbits w i h
  constructor
  · intro hn
    rw [withFetchWord_byte hn, step, takeStimulus_queued rfl, decodeEvt_tickWord]
    exact exec_tck_of_decode rfl (decode_of_byte hn h)
  · intro hn
    rw [withFetchWord_two_bytes hn, step_queued, decodeEvt_of_two_bytes hn h]

/-! ### STEP stays legal -/

/-- The advance counts up to 16 and wraps from there (rule R94). -/
theorem advance_legal {s : State} (h : Legal s) : Legal (advance s) := by
  obtain hlast | hlt := Nat.eq_or_lt_of_le h
  · rw [advance_at_last ((step_eq_sixteen_iff s).2 hlast), finalize_eq]
    exact Nat.zero_le 16
  · rw [advance_below hlt, Legal, step_succ_toNat hlt]
    exact hlt

/-- The meaning of each of the seventeen step operations: its kind's operation, then the advance (rules R95 to
R111). -/
theorem exec_step_operation {i : Instr} (hi : i.isEvent = false) :
    ∃ k l, ∀ s, exec i s = onLegalStep s fun s => .next (advance (kindOp k l s)) := by
  cases i with
  | s0Dir l | s4Dir l | s8Dir l | s16Dirfin l => exact ⟨.dir, l, fun _ => rfl⟩
  | s2As l | s6As l | s10As l | s14As l => exact ⟨.as, l, fun _ => rfl⟩
  | s12Ext l => exact ⟨.ext, l, fun _ => rfl⟩
  | s1Tgl | s3Tgl | s5Tgl | s7Tgl | s9Tgl | s11Tgl | s13Tgl | s15Tgl => exact ⟨.tgl, 0, fun _ => rfl⟩
  | rst | nop | beg | tck l | tb l => cases hi

theorem EventOutcome.legal {i : Instr} {s t : State} (h : EventOutcome i s t) (hs : Legal s) : Legal t := by
  cases h with
  | reset | arm | finish => exact Nat.zero_le 16
  | idleHold | activeHold => exact hs
  | toggle _ _ _ hlt | sampling _ _ _ _ _ hlt => rw [Legal, step_succ_toNat hlt]; exact hlt

theorem exec_legal {i : Instr} {s t : State} (h : exec i s = .next t) : Legal t := by
  have hs := legal_of_exec h
  cases hi : i.isEvent with
  | true => exact ((exec_event_iff hi).1 h).2.legal hs
  | false =>
    obtain ⟨k, l, hexec⟩ := exec_step_operation hi
    rw [hexec, onLegalStep_of_legal hs] at h
    cases h
    exact advance_legal (by rwa [Legal, kindOp_step])

/-- Settles O12: a legal STEP has a next state and stays legal, a reserved one is refused. -/
theorem execCompletesExactlyOnLegalSteps : Obligations.ExecCompletesExactlyOnLegalSteps := by
  refine fun i s => ⟨fun hs => ?_, exec_of_reserved i⟩
  obtain ⟨t, ht⟩ := exec_completes_of_legal i hs
  exact ⟨t, ht, exec_legal ht⟩

/-! ### RESET and TICK -/

/-- Settles O20: RST is the reset of the registers on a legal state. -/
theorem resetEventWritesEveryRegister : Obligations.ResetEventWritesEveryRegister :=
  fun _ => exec_rst_of_legal

/-- Settles O22: an idle TICK is the empty transition. -/
theorem idleTickIsIgnored : Obligations.IdleTickIsIgnored := by
  intro s l hs hrun
  rw [exec_tck_of_legal hs, tickEvent_idle hrun]

/-- Settles O34: toggle and sampling steps count up, the last step wraps; no other outcome has an accepted TICK. -/
theorem acceptedTickAdvancesByOneOrWraps : Obligations.AcceptedTickAdvancesByOneOrWraps := by
  intro s l hrun hs
  obtain ⟨t, ht⟩ := exec_completes_of_legal (.tck l) hs
  refine ⟨t, ht, ?_⟩
  cases ((exec_event_iff rfl).1 ht).2 with
  | reset hi => cases hi
  | idleHold _ _ hidle | arm _ hidle => rw [hrun] at hidle; cases hidle
  | activeHold _ htick => cases htick
  | toggle _ _ _ hlt | sampling _ _ _ _ _ hlt => exact .inl ⟨hlt, step_succ_toNat hlt, hrun⟩
  | finish _ _ _ _ hstep => exact .inr ⟨(step_eq_sixteen_iff s).1 hstep, rfl, rfl, rfl⟩

/-- Settles O23: the TICK performs what STEP decodes to; counting or wrapping, STEP moves and never to 17. -/
theorem acceptedTickPerformsTheStepOperation : Obligations.AcceptedTickPerformsTheStepOperation := by
  intro s l i hrun hdec
  obtain ⟨t, ht, hstep⟩ := acceptedTickAdvancesByOneOrWraps s l hrun (legal_of_decode_stp hdec)
  refine ⟨exec_tck_of_decode hrun hdec, t, ht, ?moves, ?legal⟩
  case moves =>
    intro heq
    rw [heq] at hstep
    obtain ⟨-, hsucc, -⟩ | ⟨hlast, hzero, -⟩ := hstep
    · omega
    · rw [hzero] at hlast
      cases hlast
  case legal =>
    intro h17
    have hle := exec_legal ht
    rw [Legal, h17] at hle
    exact absurd hle (by decide)

/-! ### TICK, then BEGIN -/

/-- Settles O25: while idle only the BEGIN counts; below step 16 the TICK leaves the block active, where BEGIN is lost;
at step 16 it leaves the block idle at step 0 with SEL HIGH, where BEGIN only sets RUN. -/
theorem tickThenBeginRunInThatOrder : Obligations.TickThenBeginRunInThatOrder := by
  intro s l hs
  refine ⟨fun hrun => ?idle, fun hrun hne => ?below, fun hrun hlast => ?last⟩
  case idle => rw [exec_tb_of_legal hs, exec_tck_of_legal hs, tickEvent_idle hrun, andThen_next, beginCycle_idle hrun]
  case below =>
    obtain ⟨t, ht, ⟨-, -, hactive⟩ | ⟨h16, -⟩⟩ := acceptedTickAdvancesByOneOrWraps s l hrun hs
    · exact ⟨t, by rw [exec_tb_of_legal hs, ht, andThen_next, beginCycle_active hactive], ht⟩
    · exact absurd ((step_eq_sixteen_iff s).2 h16) hne
  case last =>
    have htick := (exec_tck_of_active hrun hs l).trans (performStep_finish hlast rfl)
    refine ⟨_, htick, rfl, ?_⟩
    rw [exec_tb_of_legal hs, htick, andThen_next, beginCycle_idle rfl]

end Sys2Proof.Machine
end

section
/-! The statements about MASK (rules R8, R26, R42, R63, R69, R124): which buttons a TICK writes, which lines it reads,
and what the buttons byte shows of it. -/

namespace Sys2Proof.Machine

/-! ### The pairs of a lane -/

/-- An entry's pairs are those of its kind. -/
theorem lane_pairs {n : StepNo} {e : LaneEntry} (h : lane n = some e) : e.pairs = kindPairs e.kind := by
  have htable : ∀ e ∈ laneTable, e.pairs = kindPairs e.kind := by decide
  exact htable e (List.mem_of_getElem? h)

/-- No lane lists a button twice (rule R63). -/
theorem kindPairs_buttons_nodup (k : Kind) : ((kindPairs k).map Prod.snd).Nodup := by
  cases k <;> decide

/-- The rows "written at steps" of rule R26 are the steps whose lanes list the button. -/
theorem lane_lists_only_at_writtenAt :
    ∀ n : StepNo, ∀ e ∈ lane n, ∀ q ∈ e.pairs, n.toNat ∈ writtenAt q.2 := by decide

/-! ### What a sampling writes and reads -/

theorem readButton_samplePairs_unlisted {ps : List (LineName × Button)} {btn : Button}
    (h : ∀ p, (p, btn) ∉ ps) (l : Line) (m : Mask) : readButton (samplePairs ps l m) btn = readButton m btn := by
  refine samplePairs_getLsbD_of_unlisted (fun q hq hbit => h q.1 ?_) l m
  rw [buttonBit_injective hbit]
  exact hq

/-- A button listed once takes its line's level; the pairs behind it do not touch it. -/
theorem readButton_samplePairs_listed {ps : List (LineName × Button)} (hnodup : (ps.map Prod.snd).Nodup)
    {p : LineName} {btn : Button} (h : (p, btn) ∈ ps) (l : Line) (m : Mask) :
    readButton (samplePairs ps l m) btn = lineLevel l p := by
  induction ps generalizing m with
  | nil => cases h
  | cons q ps ih =>
    obtain ⟨hq, hps⟩ := List.nodup_cons.1 hnodup
    rw [samplePairs_cons]
    obtain rfl | hmem := List.mem_cons.1 h
    · have hunlisted : ∀ r, (r, btn) ∉ ps := fun r hr => hq (List.mem_map.2 ⟨(r, btn), hr, rfl⟩)
      rw [readButton_samplePairs_unlisted hunlisted, readButton_writeButton, if_pos rfl]
    · exact ih hps hmem _

/-- A sampling reads the listed lines only (rule R42 (e)). -/
theorem samplePairs_congr {ps : List (LineName × Button)} {l l' : Line}
    (h : ∀ p btn, (p, btn) ∈ ps → lineLevel l p = lineLevel l' p) (m : Mask) :
    samplePairs ps l m = samplePairs ps l' m := by
  induction ps generalizing m with
  | nil => rfl
  | cons q ps ih =>
    rw [samplePairs_cons, samplePairs_cons, h q.1 q.2 List.mem_cons_self,
      ih fun p btn hp => h p btn (List.mem_cons_of_mem q hp)]

/-- Settles O29: the TICK samples the pairs of its entry, each of whose buttons is listed once. -/
theorem tickWritesExactlyTheListedButtons : Obligations.TickWritesExactlyTheListedButtons := by
  intro s l e hrun hlane
  have hs : Legal s := legal_of_lane hlane
  have htick := (exec_tck_of_active hrun hs l).trans (performStep_of_lane hlane l)
  refine ⟨_, htick, fun btn => ?_⟩
  rw [advance_mask, kindOp_mask, lane_pairs hlane]
  exact ⟨fun p hp => readButton_samplePairs_listed (kindPairs_buttons_nodup e.kind) hp l s.mask,
    fun hp => readButton_samplePairs_unlisted hp l s.mask⟩

theorem kindOp_congr {k : Kind} {l l' : Line} {s : State}
    (h : samplePairs (kindPairs k) l s.mask = samplePairs (kindPairs k) l' s.mask) :
    kindOp k l s = kindOp k l' s := by
  cases k with
  | tgl => rfl
  | dir | as | ext => exact congrArg (setMask · s) h

/-- Settles O30: a lane's operation is the same for two vectors that agree on its lines; an idle block and a reserved
STEP look at no line. -/
theorem tickReadsOnlyItsLanesLines : Obligations.TickReadsOnlyItsLanesLines := by
  intro s l l' hlines
  have htick : exec (.tck l) s = exec (.tck l') s := by
    obtain hs | hs := le_or_gt s.step.toNat 16
    · cases hrun : s.run with
      | false => rw [idleTickIsIgnored s l hs hrun, idleTickIsIgnored s l' hs hrun]
      | true =>
        obtain ⟨e, hlane⟩ := lane_of_legal hs
        have hpairs := hlines hrun e hlane
        rw [lane_pairs hlane] at hpairs
        rw [exec_tck_of_active hrun hs, exec_tck_of_active hrun hs, performStep_of_lane hlane,
          performStep_of_lane hlane, kindOp_congr (samplePairs_congr hpairs s.mask)]
    · rw [exec_of_reserved _ hs, exec_of_reserved _ hs]
  refine ⟨htick, ?_⟩
  obtain hs | hs := le_or_gt s.step.toNat 16
  · rw [exec_tb_of_legal hs, exec_tb_of_legal hs, htick]
  · rw [exec_of_reserved _ hs, exec_of_reserved _ hs]

/-! ### When a button changes -/

/-- MASK changes by a RESET or by the sampling of an accepted TICK. -/
theorem EventOutcome.mask {i : Instr} {s t : State} (h : EventOutcome i s t) (hi : i ≠ .rst) :
    t.mask = s.mask ∨
      s.run = true ∧ hasTick i = true ∧ ∃ e l, lane s.step = some e ∧ t.mask = samplePairs e.pairs l s.mask := by
  cases h with
  | reset hrst => exact absurd hrst hi
  | idleHold | arm | activeHold | toggle => exact .inl rfl
  | sampling l k hl hrun _ _ _ hlane =>
    exact .inr ⟨hrun, (hasTick_iff i).2 ⟨l, hl⟩, laneEntry k false, l, hlane, rfl⟩
  | finish l m hl hrun hstep hm =>
    exact .inr ⟨hrun, (hasTick_iff i).2 ⟨l, hl⟩, laneEntry .dir true, l, by rw [hstep, lane_sixteen], hm⟩

theorem EventOutcome.button_written {i : Instr} {s t : State} {btn : Button} (h : EventOutcome i s t) (hi : i ≠ .rst)
    (hchange : readButton t.mask btn ≠ readButton s.mask btn) :
    s.run = true ∧ hasTick i = true ∧ s.step.toNat ∈ writtenAt btn := by
  obtain hmask | ⟨hrun, htick, e, l, hlane, hmask⟩ := h.mask hi
  · rw [hmask] at hchange
    exact absurd rfl hchange
  · refine ⟨hrun, htick, ?_⟩
    by_contra hwritten
    have hunlisted : ∀ p, (p, btn) ∉ e.pairs := fun p hp =>
      hwritten (lane_lists_only_at_writtenAt s.step e hlane (p, btn) hp)
    rw [hmask, readButton_samplePairs_unlisted hunlisted] at hchange
    exact hchange rfl

/-- Settles O31: only a sampling changes MASK, and a button it writes is listed in the step's lane. -/
theorem buttonsChangeOnlyAtTheirSteps : Obligations.ButtonsChangeOnlyAtTheirSteps := by
  intro s t btn h hi hchange
  rw [← takeStimulus_mask s] at hchange
  simpa only [takeStimulus_run, takeStimulus_step] using (step_outcome h).button_written hi hchange

/-! ### The buttons byte -/

theorem buttonsByte_toNat (m : Mask) : (buttonsByte m).toNat = m.toNat / 16 := by
  rw [buttonsByte, BitVec.toNat_setWidth, BitVec.toNat_ushiftRight, btnShift, Nat.shiftRight_eq_div_pow]
  exact Nat.mod_eq_of_lt (by omega)

/-- Bit i of the buttons byte is the button whose bit of MASK is i + 4. -/
theorem buttonsByte_getLsbD {m : Mask} {btn : Button} {i : Nat} (hi : i < 8) (hbtn : buttonBit btn = 4 + i) :
    (buttonsByte m).getLsbD i = readButton m btn := by
  rw [buttonsByte_eq_slice, BitVec.getLsbD_extractLsb', readButton, hbtn, decide_eq_true hi, Bool.true_and]

/-- The four directions lie below the slice. -/
theorem buttonsByte_writeButton_direction {btn : Button} (hbtn : buttonBit btn < 4) (m : Mask) (v : Bool) :
    buttonsByte (writeButton m btn v) = buttonsByte m := by
  rw [buttonsByte_eq_slice, buttonsByte_eq_slice]
  apply BitVec.eq_of_getLsbD_eq
  intro i hi
  rw [BitVec.getLsbD_extractLsb', BitVec.getLsbD_extractLsb', writeButton_getLsbD, if_neg (by omega)]

theorem buttonsByte_append (v : Byte) (d : BitVec 4) : buttonsByte (v ++ d) = v := by
  rw [buttonsByte_eq_slice]
  apply BitVec.eq_of_getLsbD_eq
  intro i hi
  rw [BitVec.getLsbD_extractLsb', BitVec.getLsbD_append]
  simp [hi]

/-- Settles O27: the byte is the slice above the four directions, which an append of any directions inverts. -/
theorem buttonsByteDropsTheDirections : Obligations.ButtonsByteDropsTheDirections := by
  refine ⟨buttonsByte_toNat, buttonsByte_eq_slice, fun m => ?buttons, fun m v => ?directions,
    fun v => ⟨v ++ 0#4, buttonsByte_append v 0⟩⟩
  case buttons =>
    exact ⟨buttonsByte_getLsbD (by decide) rfl, buttonsByte_getLsbD (by decide) rfl,
      buttonsByte_getLsbD (by decide) rfl, buttonsByte_getLsbD (by decide) rfl,
      buttonsByte_getLsbD (by decide) rfl, buttonsByte_getLsbD (by decide) rfl,
      buttonsByte_getLsbD (by decide) rfl, buttonsByte_getLsbD (by decide) rfl⟩
  case directions =>
    exact ⟨buttonsByte_writeButton_direction (by decide) m v, buttonsByte_writeButton_direction (by decide) m v,
      buttonsByte_writeButton_direction (by decide) m v, buttonsByte_writeButton_direction (by decide) m v⟩

end Sys2Proof.Machine
end

section
/-! The statements about what a step may change and hands over (rules R24, R46, R56, R67, R140, R145) and about the
premises on the environment (rules R154, R157, R159), each read off the outcomes of the presented event. -/

namespace Sys2Proof.Machine

/-! ### The output trace -/

/-- The items of rule R46 that an event appends; `m` is the mask after it. `EventOutcome.trace` ties this to the
model. -/
def traceItems (i : Instr) (s : State) (m : Mask) : List TraceItem :=
  if s.run = true ∧ hasTick i = true then
    if s.step.toNat % 2 = 1 then [.selWrite (!s.sel)]
    else if s.step = 16 then [.actWrite (decide (m ≠ 0)), .report (axisX m) (axisY m) (buttonsByte m)]
    else []
  else []

theorem traceItems_of_idle {s : State} (hrun : s.run = false) (i : Instr) (m : Mask) : traceItems i s m = [] :=
  if_neg (by simp [hrun])

theorem traceItems_of_no_tick {i : Instr} (htick : hasTick i = false) (s : State) (m : Mask) :
    traceItems i s m = [] :=
  if_neg (by simp [htick])

theorem traceItems_of_toggle {i : Instr} {s : State} (hrun : s.run = true) (htick : hasTick i = true)
    (hodd : s.step.toNat % 2 = 1) (m : Mask) : traceItems i s m = [.selWrite (!s.sel)] := by
  rw [traceItems, if_pos ⟨hrun, htick⟩, if_pos hodd]

theorem traceItems_of_finish {i : Instr} {s : State} (hrun : s.run = true) (htick : hasTick i = true)
    (hstep : s.step = 16) (m : Mask) :
    traceItems i s m = [.actWrite (decide (m ≠ 0)), .report (axisX m) (axisY m) (buttonsByte m)] := by
  rw [traceItems, if_pos ⟨hrun, htick⟩, if_neg (by rw [hstep]; decide), if_pos hstep]

/-- Outside a finalization nothing but a SelWrite is emitted. -/
theorem traceItems_of_not_finish {i : Instr} {s : State} (h : ¬(s.run = true ∧ hasTick i = true ∧ s.step = 16))
    (m : Mask) : ∀ v ∈ traceItems i s m, ∃ b, v = .selWrite b := by
  unfold traceItems
  split
  case isFalse => exact fun v hv => nomatch hv
  case isTrue haccepted =>
    split
    case isTrue => exact fun v hv => ⟨_, List.mem_singleton.1 hv⟩
    case isFalse =>
      rw [if_neg fun hstep => h ⟨haccepted.1, haccepted.2, hstep⟩]
      exact fun v hv => nomatch hv

theorem EventOutcome.trace {i : Instr} {s t : State} (h : EventOutcome i s t) :
    t.trace = s.trace ++ traceItems i s t.mask := by
  cases h with
  | reset hi => subst hi; rw [traceItems_of_no_tick rfl, List.append_nil]
  | idleHold _ _ hrun | arm _ hrun => rw [traceItems_of_idle hrun, List.append_nil]
  | activeHold _ htick => rw [traceItems_of_no_tick htick, List.append_nil]
  | toggle htick hrun hodd => rw [traceItems_of_toggle hrun htick hodd]
  | sampling l _ hl hrun heven hlt =>
    have hne : s.step ≠ 16 := fun h16 => by rw [h16] at hlt; exact absurd hlt (by decide)
    rw [traceItems, if_neg (show ¬s.step.toNat % 2 = 1 by omega), if_neg hne, ite_self, List.append_nil]
  | finish l _ hl hrun hstep => rw [traceItems_of_finish hrun ((hasTick_iff i).2 ⟨l, hl⟩) hstep]

/-- What a step appends depends on the registers, which taking the word leaves as they are. -/
theorem step_trace {s t : State} (h : step s = .next t) :
    t.trace = s.trace ++ traceItems (presented s) s t.mask := by
  simpa only [traceItems, takeStimulus_trace, takeStimulus_run, takeStimulus_step, takeStimulus_sel] using
    (step_outcome h).trace

/-- Settles O35: `traceItems` is the list the statement writes out. -/
theorem stepAppendsExactlyItsTraceItems : Obligations.StepAppendsExactlyItsTraceItems :=
  fun _ _ h => step_trace h

/-! ### The bytes of a report -/

theorem axisByte_axisConstant (neg pos : Bool) : AxisConstant (axisByte neg pos) := by
  cases neg <;> cases pos <;> decide

/-- A report among the items is the one of the mask after the event. -/
theorem report_mem_traceItems {i : Instr} {s : State} {m : Mask} {x y b : Byte}
    (h : TraceItem.report x y b ∈ traceItems i s m) : x = axisX m ∧ y = axisY m := by
  by_cases hfin : s.run = true ∧ hasTick i = true ∧ s.step = 16
  · obtain ⟨hrun, htick, hstep⟩ := hfin
    rw [traceItems_of_finish hrun htick hstep] at h
    simp only [List.mem_cons, reduceCtorEq, TraceItem.report.injEq, List.not_mem_nil, or_false, false_or] at h
    exact ⟨h.1, h.2.1⟩
  · obtain ⟨v, hv⟩ := traceItems_of_not_finish hfin m _ h
    cases hv

/-- Settles O36: a report is an old one or the one of the new mask, whose axis bytes come from the truth table. -/
theorem stepKeepsReportAxisConstants : Obligations.StepKeepsReportAxisConstants := by
  intro s t hs h x y b hmem
  rw [step_trace h] at hmem
  obtain hold | hnew := List.mem_append.1 hmem
  · exact hs x y b hold
  · obtain ⟨rfl, rfl⟩ := report_mem_traceItems hnew
    exact ⟨axisByte_axisConstant _ _, axisByte_axisConstant _ _⟩

/-! ### The indicator -/

theorem EventOutcome.act_changes {i : Instr} {s t : State} (h : EventOutcome i s t) (hact : t.act ≠ s.act) :
    i = .rst ∨ s.run = true ∧ s.step = 16 ∧ hasTick i = true := by
  cases h with
  | reset hi => exact .inl hi
  | idleHold | arm | activeHold | toggle | sampling => exact absurd rfl hact
  | finish l _ hl hrun hstep => exact .inr ⟨hrun, hstep, (hasTick_iff i).2 ⟨l, hl⟩⟩

/-- An accepted TICK at the last step is a finalization, of the mask it samples. -/
theorem EventOutcome.finishes {i : Instr} {s t : State} (h : EventOutcome i s t) (hrun : s.run = true)
    (hstep : s.step = 16) (htick : hasTick i = true) :
    t.step = 0 ∧ t.sel = true ∧ t.run = hasBegin i ∧ t.act = decide (t.mask ≠ 0) ∧
      ∃ l, (i = .tck l ∨ i = .tb l) ∧ t.mask = samplePairs dirPairs l s.mask := by
  cases h with
  | reset hi => subst hi; cases htick
  | idleHold _ _ hidle | arm _ hidle => rw [hrun] at hidle; cases hidle
  | activeHold _ hno => rw [htick] at hno; cases hno
  | toggle _ _ _ hlt | sampling _ _ _ _ _ hlt => rw [hstep] at hlt; exact absurd hlt (by decide)
  | finish l _ hl _ _ hm => exact ⟨rfl, rfl, rfl, rfl, l, hl, hm⟩

/-- Settles O32: only RESET and a finalization write ACT, and the latter from the mask it leaves. -/
theorem indicatorChangesOnlyAtFinalizationOrReset : Obligations.IndicatorChangesOnlyAtFinalizationOrReset := by
  intro s t h
  have hout := step_outcome h
  constructor
  · intro hact
    rw [← takeStimulus_act s] at hact
    simpa only [takeStimulus_run, takeStimulus_step] using hout.act_changes hact
  · intro hrun hstep htick
    obtain ⟨-, -, -, hact, -⟩ :=
      hout.finishes ((takeStimulus_run s).trans hrun) ((takeStimulus_step s).trans hstep) htick
    exact hact

/-! ### The two modes -/

theorem EventOutcome.idle_left {i : Instr} {s t : State} (h : EventOutcome i s t) (hrun : s.run = false) :
    t.run = true ↔ hasBegin i = true := by
  cases h with
  | reset hi => subst hi; exact iff_of_false Bool.false_ne_true Bool.false_ne_true
  | idleHold _ hbeg => rw [hrun, hbeg]
  | arm hbeg => exact iff_of_true rfl hbeg
  | activeHold _ _ hactive | toggle _ hactive | sampling _ _ _ hactive | finish _ _ _ hactive =>
    exact absurd (hrun.symm.trans hactive) Bool.false_ne_true

/-- A TICK without a BEGIN is TCK. -/
theorem tck_iff_no_begin {i : Instr} {l : Line} (hl : i = .tck l ∨ i = .tb l) :
    hasBegin i = false ↔ ∃ l', i = .tck l' := by
  obtain rfl | rfl := hl <;> simp [hasBegin]

theorem EventOutcome.active_left {i : Instr} {s t : State} (h : EventOutcome i s t) (hrun : s.run = true) :
    t.run = false ↔ i = .rst ∨ s.step = 16 ∧ ∃ l, i = .tck l := by
  have hactive : ¬s.run = false := by rw [hrun]; decide
  cases h with
  | reset hi => exact iff_of_true rfl (.inl hi)
  | idleHold _ _ hidle | arm _ hidle => exact absurd hidle hactive
  | activeHold hi htick =>
    refine iff_of_false hactive ?_
    rintro (hrst | ⟨-, l, rfl⟩)
    · exact hi hrst
    · cases htick
  | toggle htick _ _ hlt =>
    refine iff_of_false hactive ?_
    rintro (rfl | ⟨hstep, -⟩)
    · cases htick
    · rw [hstep] at hlt; exact absurd hlt (by decide)
  | sampling l _ hl _ _ hlt =>
    refine iff_of_false hactive ?_
    rintro (rfl | ⟨hstep, -⟩)
    · obtain hl | hl := hl <;> cases hl
    · rw [hstep] at hlt; exact absurd hlt (by decide)
  | finish l _ hl _ hstep =>
    have hne : i ≠ .rst := by rintro rfl; obtain hl | hl := hl <;> cases hl
    simp only [hne, hstep, false_or, true_and, tck_iff_no_begin hl]

/-- Settles O33: of the outcomes only `arm` leaves idle, and only `reset` and a finalization without a BEGIN leave
active. -/
theorem modesAreLeftOnlyByTheirEvents : Obligations.ModesAreLeftOnlyByTheirEvents := by
  intro s t h
  have hout := step_outcome h
  refine ⟨fun hrun => hout.idle_left ((takeStimulus_run s).trans hrun), fun hrun => ?_⟩
  simpa only [takeStimulus_step] using hout.active_left ((takeStimulus_run s).trans hrun)

/-! ### The output ports -/

theorem hasTick_decodeEvt (sw : Stim) : hasTick (decodeEvt sw) = (!sw.getLsbD 8 && sw.getLsbD 6) := by
  unfold decodeEvt
  cases sw.getLsbD 8 <;> cases sw.getLsbD 7 <;> cases sw.getLsbD 6 <;> rfl

/-- The line vector of a TICK is the word's line field (rule R70). -/
theorem line_of_decodeEvt {sw : Stim} {l : Line} (h : decodeEvt sw = .tck l ∨ decodeEvt sw = .tb l) :
    l = stimLine sw := by
  rw [decodeEvt] at h
  split at h
  · obtain h | h := h <;> cases h
  · split at h <;> obtain h | h := h <;> cases h <;> rfl

theorem finalizingTick_iff (sw : Stim) (s : State) :
    finalizingTick sw s = true ↔ s.run = true ∧ hasTick (decodeEvt sw) = true ∧ s.step = 16 := by
  rw [finalizingTick, ← hasTick_decodeEvt, Bool.and_eq_true, Bool.and_eq_true, decide_eq_true_eq, lastStep,
    step_eq_sixteen_iff]
  tauto

/-- Settles O37: rpt_valid says that the word's TICK finalizes, and the presented mask is the one it leaves. -/
theorem reportPortsAgreeWithTheTrace : Obligations.ReportPortsAgreeWithTheTrace := by
  intro s sw hs
  obtain ⟨t, ht⟩ := exec_completes_of_legal (decodeEvt sw) hs
  have hout := ((exec_event_iff (isEvent_decodeEvt sw)).1 ht).2
  refine ⟨rfl, rfl, rfl, t, ht, fun hvalid => ?valid, fun hvalid => ?invalid⟩
  case valid =>
    obtain ⟨hrun, htick, hstep⟩ := (finalizingTick_iff sw s).1 hvalid
    obtain ⟨-, -, -, hact, l, hl, hmask⟩ := hout.finishes hrun hstep htick
    have hpresented : presentedMask sw s = t.mask := by rw [presentedMask, hmask, line_of_decodeEvt hl]
    rw [hout.trace, traceItems_of_finish hrun htick hstep, hact]
    simp only [outputs, hpresented]
  case invalid =>
    have hnot : ¬(s.run = true ∧ hasTick (decodeEvt sw) = true ∧ s.step = 16) := fun hfin =>
      Bool.false_ne_true (hvalid.symm.trans ((finalizingTick_iff sw s).2 hfin))
    refine ⟨_, hout.trace, fun x y v hmem => ?_⟩
    obtain ⟨b, hb⟩ := traceItems_of_not_finish hnot t.mask _ hmem
    cases hb

/-! ### The premises on the environment -/

theorem EventOutcome.tick_counts {i : Instr} {s t : State} (h : EventOutcome i s t) (hrun : s.run = true)
    (htick : hasTick i = true) : t.step.toNat = if s.step = 16 then 0 else s.step.toNat + 1 := by
  have hne (hlt : s.step.toNat < 16) : s.step ≠ 16 := fun h16 => by rw [h16] at hlt; exact absurd hlt (by decide)
  cases h with
  | reset hi => subst hi; cases htick
  | idleHold _ _ hidle | arm _ hidle => rw [hrun] at hidle; cases hidle
  | activeHold _ hno => rw [htick] at hno; cases hno
  | toggle _ _ _ hlt | sampling _ _ _ _ _ hlt => rw [if_neg (hne hlt)]; exact step_succ_toNat hlt
  | finish _ _ _ _ hstep => rw [if_pos hstep]; rfl

/-- A BEGIN that is not lost leaves the block armed at step 0 (rules R82, R86 case b). -/
theorem EventOutcome.begin_arms {i : Instr} {s t : State} (h : EventOutcome i s t) (hbeg : hasBegin i = true)
    (hfree : s.run = false ∨ s.step.toNat = 16 ∧ hasTick i = true) :
    t.run = true ∧ t.step = 0 ∧ t.sel = true := by
  cases hrun : s.run with
  | true =>
    obtain hidle | ⟨hlast, htick⟩ := hfree
    · rw [hrun] at hidle; cases hidle
    · obtain ⟨hstep, hsel, hrun', -⟩ := h.finishes hrun ((step_eq_sixteen_iff s).2 hlast) htick
      exact ⟨hrun'.trans hbeg, hstep, hsel⟩
  | false =>
    cases h with
    | reset hi => subst hi; cases hbeg
    | idleHold _ hno => rw [hbeg] at hno; cases hno
    | arm => exact ⟨rfl, rfl, rfl⟩
    | activeHold _ _ hactive | toggle _ hactive | sampling _ _ _ hactive | finish _ _ _ hactive =>
      rw [hrun] at hactive; cases hactive

/-- A block that a step takes out of a cycle without RESET has finalized, so it has handed a report over. -/
theorem step_reports_at_cycle_end {s t : State} (h : step s = .next t) (hrst : presented s ≠ .rst)
    (hrun : s.run = true) (hidle : t.run = false) :
    ∃ items x y v, t.trace = s.trace ++ items ∧ TraceItem.report x y v ∈ items := by
  obtain hi | ⟨hstep, l, hl⟩ := ((modesAreLeftOnlyByTheirEvents s t h).2 hrun).1 hidle
  · exact absurd hi hrst
  · have htick : hasTick (presented s) = true := (hasTick_iff _).2 ⟨l, .inl hl⟩
    have htrace := step_trace h
    rw [traceItems_of_finish hrun htick hstep] at htrace
    exact ⟨_, _, _, _, htrace, List.mem_cons_of_mem _ List.mem_cons_self⟩

/-- Settles O39: an accepted TICK counts, a cycle ended by no RESET has finalized, and a BEGIN that is not lost arms. -/
theorem environmentPremisesMakeEveryEventCount : Obligations.EnvironmentPremisesMakeEveryEventCount := by
  intro s t h
  have hout := step_outcome h
  refine ⟨fun hpremise htick => ?ticks, fun hpremise hrun hidle => ?reports, fun hpremise hbeg => ?begins⟩
  case ticks =>
    have hrun : (takeStimulus s).2.run = true := (takeStimulus_run s).trans (hpremise htick)
    simpa only [takeStimulus_step] using hout.tick_counts hrun htick
  case reports =>
    refine step_reports_at_cycle_end h (fun hrst => ?_) hrun hidle
    exact Bool.false_ne_true ((hpremise hrst).symm.trans hrun)
  case begins =>
    refine hout.begin_arms hbeg ?_
    rw [takeStimulus_run, takeStimulus_step]
    exact hpremise hbeg

end Sys2Proof.Machine
end

section
/-! The statements about event programs: the queue of stimulus words (rule R71) and the spec's step function in one
block (rule R80). -/

namespace Sys2Proof.Machine

theorem runProgram_cons (i : Instr) (p : List Instr) (s : State) :
    runProgram (i :: p) s = andThen (exec i s) (runProgram p) := rfl

theorem runProgram_cons_of_next {i : Instr} {s t : State} (h : exec i s = .next t) (p : List Instr) :
    runProgram (i :: p) s = runProgram p t := by
  rw [runProgram_cons, h, andThen_next]

/-! ### Queued words -/

/-- No event reads or writes the queue. -/
theorem EventOutcome.with_stimulus {i : Instr} {s t : State} (h : EventOutcome i s t) (q : List Stim) :
    EventOutcome i { s with stimulus := q } { t with stimulus := q } := by
  cases h with
  | reset hi => exact .reset hi
  | idleHold hi hbeg hrun => exact .idleHold hi hbeg hrun
  | arm hbeg hrun => exact .arm hbeg hrun
  | activeHold hi htick hrun => exact .activeHold hi htick hrun
  | toggle htick hrun hodd hlt => exact .toggle htick hrun hodd hlt
  | sampling l k hl hrun heven hlt hk hlane => exact .sampling l k hl hrun heven hlt hk hlane
  | finish l m hl hrun hstep hm => exact .finish l m hl hrun hstep hm

theorem exec_with_stimulus {i : Instr} {s t : State} (hi : i.isEvent = true) (h : exec i s = .next t)
    (q : List Stim) : exec i { s with stimulus := q } = .next { t with stimulus := q } := by
  obtain ⟨hs, hout⟩ := (exec_event_iff hi).1 h
  exact exec_of_outcome hi hs (hout.with_stimulus q)

/-- Settles O14: by induction on the words; an event has the same outcome whatever is queued, and a reserved STEP stops
both runs. -/
theorem queuedWordsRunAsTheirProgram : Obligations.QueuedWordsRunAsTheirProgram := by
  intro ws rest s
  induction ws generalizing s with
  | nil => rfl
  | cons sw ws ih =>
    rw [List.length_cons, List.cons_append, runSteps_succ, step_queued, List.map_cons, runProgram_cons]
    obtain hs | hs := le_or_gt s.step.toNat 16
    · obtain ⟨t, ht⟩ := exec_completes_of_legal (decodeEvt sw) hs
      have hq := exec_with_stimulus (isEvent_decodeEvt sw) ht
      rw [hq, hq, andThen_next, andThen_next, ih]
    · have hrefused (q : List Stim) : exec (decodeEvt sw) { s with stimulus := q } = .refused .reservedStep :=
        exec_of_reserved _ hs
      rw [hrefused, hrefused, andThen_refused, andThen_refused]

/-! ### The reference function reads no trace and leaves the one in the state alone -/

theorem refEvent_with_trace (e : Event) (s : State) (tr : List TraceItem) :
    refEvent e { s with trace := tr } = ({ (refEvent e s).1 with trace := tr }, (refEvent e s).2) := by
  cases e with
  | reset => rfl
  | begin => simp only [refEvent]; split <;> rfl
  | tick l =>
    simp only [refEvent, refTick]
    split
    · split <;> rfl
    · rfl

theorem refEvent_trace (e : Event) (s : State) : (refEvent e s).1.trace = s.trace := by
  cases e with
  | reset => rfl
  | begin => simp only [refEvent]; split <;> rfl
  | tick l =>
    simp only [refEvent, refTick]
    split
    · split <;> rfl
    · rfl

theorem refRun_with_trace (es : List Event) (s : State) (tr : List TraceItem) :
    refRun es { s with trace := tr } = ({ (refRun es s).1 with trace := tr }, (refRun es s).2) := by
  induction es generalizing s with
  | nil => rfl
  | cons e es ih => rw [refRun, refEvent_with_trace, ih, refRun]

theorem refRun_trace (es : List Event) (s : State) : (refRun es s).1.trace = s.trace := by
  induction es generalizing s with
  | nil => rfl
  | cons e es ih => rw [refRun, ih, refEvent_trace]

theorem withItems_nil (s : State) : withItems (s, []) = s := by
  rw [withItems, List.append_nil]

theorem withItems_refRun_nil (s : State) : withItems (refRun [] s) = s := withItems_nil s

/-- The left fold may hand its items over event by event. -/
theorem withItems_refRun_cons (e : Event) (es : List Event) (s : State) :
    withItems (refRun (e :: es) s) = withItems (refRun es (withItems (refEvent e s))) := by
  simp only [refRun, withItems, refRun_with_trace, refRun_trace, refEvent_trace, List.append_assoc]

theorem withItems_refRun_append (es es' : List Event) (s : State) :
    withItems (refRun (es ++ es') s) = withItems (refRun es' (withItems (refRun es s))) := by
  induction es generalizing s with
  | nil => rw [List.nil_append, withItems_refRun_nil]
  | cons e es ih => rw [List.cons_append, withItems_refRun_cons, ih, withItems_refRun_cons]

/-! ### Each event refines it -/

theorem refSample_eq (k : Kind) (l : Line) (m : Mask) : refSample (some k) l m = samplePairs (kindPairs k) l m := by
  cases k with
  | tgl => rfl
  | dir => rw [samplePairs_dir]; rfl
  | as => rw [samplePairs_as]; rfl
  | ext => rw [samplePairs_ext]; rfl

theorem refAxis_eq (neg pos : Bool) : refAxis neg pos = axisByte neg pos := (axisByte_eq_ite neg pos).symm

theorem refTick_below {s : State} {e : LaneEntry} (hlane : lane s.step = some e) (hlt : s.step.toNat < 16) (l : Line) :
    withItems (refTick l s) = { kindOp e.kind l s with step := s.step + 1 } := by
  have hnot : ¬s.step.toNat + 1 > 16 := by omega
  simp only [refTick, hlane, Option.map_some, refSample_eq, if_neg hnot]
  cases e.kind with
  | tgl => rfl
  | dir | as | ext => simp [withItems, kindOp, sample_eq]

theorem refTick_last {s : State} (hstep : s.step = 16) (l : Line) :
    performStep l s = .next (withItems (refTick l s)) := by
  rw [performStep_finish hstep rfl]
  have hgt : s.step.toNat + 1 > 16 := by rw [hstep]; decide
  have hlane : lane s.step = some (laneEntry .dir true) := by rw [hstep, lane_sixteen]
  simp only [refTick, hlane, Option.map_some, laneEntry, refSample_eq, kindPairs, if_pos hgt, withItems, refAxis_eq,
    axisX_eq_axisByte_bits, axisY_eq_axisByte_bits, buttonsByte_eq_slice]
  rfl

theorem performStep_refines {s : State} (hs : Legal s) (l : Line) :
    performStep l s = .next (withItems (refTick l s)) := by
  obtain hlast | hlt := Nat.eq_or_lt_of_le hs
  · exact refTick_last ((step_eq_sixteen_iff s).2 hlast) l
  · obtain ⟨e, hlane⟩ := lane_of_legal hs
    rw [performStep_below hlane hlt, refTick_below hlane hlt]

theorem exec_tck_refines {s : State} (hs : Legal s) (l : Line) :
    exec (.tck l) s = .next (withItems (refEvent (.tick l) s)) := by
  rw [exec_tck_of_legal hs]
  cases hrun : s.run with
  | false => rw [tickEvent_idle hrun, refEvent, if_neg (ne_true_of_eq_false hrun), withItems_nil]
  | true => rw [tickEvent_active hrun, performStep_refines hs, refEvent, if_pos hrun]

theorem beginCycle_refines (s : State) : beginCycle s = withItems (refEvent .begin s) := by
  cases hrun : s.run with
  | false => rw [beginCycle_idle hrun, refEvent, if_neg (ne_true_of_eq_false hrun), withItems_nil]
  | true => rw [beginCycle_active hrun, refEvent, if_pos hrun, withItems_nil]

/-- An instruction of the EVT format is the run of its events (rule R71). -/
theorem exec_refines {i : Instr} (hi : i.isEvent = true) {s : State} (hs : Legal s) :
    exec i s = .next (withItems (refRun (eventsOf i) s)) := by
  cases i with
  | rst =>
    rw [exec_rst_of_legal hs, eventsOf, withItems_refRun_cons, withItems_refRun_nil, refEvent, withItems_nil]
  | nop => rw [exec_nop_of_legal hs, eventsOf, withItems_refRun_nil]
  | beg => rw [exec_beg_of_legal hs, eventsOf, withItems_refRun_cons, withItems_refRun_nil, beginCycle_refines]
  | tck l => rw [exec_tck_refines hs, eventsOf, withItems_refRun_cons, withItems_refRun_nil]
  | tb l =>
    rw [exec_tb_of_legal hs, exec_tck_refines hs, andThen_next, beginCycle_refines, eventsOf, withItems_refRun_cons,
      withItems_refRun_cons, withItems_refRun_nil]
  | _ => cases hi

/-- Settles O13: by induction on the program; each event refines the fold over its events and leaves a legal state. -/
theorem programsRefineTheReferenceStepFunction : Obligations.ProgramsRefineTheReferenceStepFunction := by
  intro p
  induction p with
  | nil => exact fun s _ _ => congrArg _ (withItems_refRun_nil s).symm
  | cons i p ih =>
    intro s hp hs
    obtain ⟨hi, hp⟩ : i.isEvent = true ∧ eventProgramWf p = true := by
      simpa only [eventProgramWf, List.all_cons, Bool.and_eq_true] using hp
    have hexec := exec_refines hi hs
    rw [runProgram_cons_of_next hexec, ih _ hp (exec_legal hexec), List.flatMap_cons, withItems_refRun_append]

end Sys2Proof.Machine
end

section
/-! The statements about the polling cycle (rules R74, R83, R112, R126): what BEGIN and a number of TICKs run to. -/

namespace Sys2Proof.Machine

/-! ### Fewer than seventeen TICKs -/

/-- An accepted TICK below the last step keeps the cycle going: it hands over neither indicator nor report. -/
theorem exec_tck_below_last {s : State} (hrun : s.run = true) (hlt : s.step.toNat < 16) (l : Line) :
    ∃ t, exec (.tck l) s = .next t ∧ t.run = true ∧ t.step.toNat = s.step.toNat + 1 ∧ t.act = s.act ∧
      ∃ items, t.trace = s.trace ++ items ∧ ∀ v ∈ items, ∃ b, v = TraceItem.selWrite b := by
  have hnot : ¬(s.run = true ∧ hasTick (.tck l) = true ∧ s.step = 16) := by
    rintro ⟨-, -, h16⟩
    rw [h16] at hlt
    exact absurd hlt (by decide)
  obtain ⟨t, ht, ⟨-, hsucc, hrun'⟩ | ⟨hlast, -⟩⟩ := acceptedTickAdvancesByOneOrWraps s l hrun (Nat.le_of_lt hlt)
  · have hout := ((exec_event_iff rfl).1 ht).2
    refine ⟨t, ht, hrun', hsucc, ?act, _, hout.trace, traceItems_of_not_finish hnot t.mask⟩
    by_contra hact
    obtain hrst | ⟨hrun, hstep, htick⟩ := hout.act_changes hact
    · cases hrst
    · exact hnot ⟨hrun, htick, hstep⟩
  · omega

/-- TICKs that do not pass the last step count up STEP and emit SelWrite items only. -/
theorem ticks_stay_active (ls : List Line) {s : State} (hrun : s.run = true)
    (hle : s.step.toNat + ls.length ≤ 16) :
    ∃ t, runProgram (ls.map .tck) s = .next t ∧ t.run = true ∧ t.step.toNat = s.step.toNat + ls.length ∧
      t.act = s.act ∧ ∃ items, t.trace = s.trace ++ items ∧ ∀ v ∈ items, ∃ b, v = TraceItem.selWrite b := by
  induction ls generalizing s with
  | nil => exact ⟨s, rfl, hrun, rfl, rfl, [], (List.append_nil _).symm, fun v hv => nomatch hv⟩
  | cons l ls ih =>
    rw [List.length_cons] at hle
    obtain ⟨u, hu, hurun, hustep, huact, itemsU, hutrace, hitemsU⟩ := exec_tck_below_last hrun (by omega) l
    obtain ⟨t, ht, htrun, htstep, htact, itemsT, httrace, hitemsT⟩ := ih hurun (by omega)
    refine ⟨t, ?run, htrun, ?step, htact.trans huact, itemsU ++ itemsT, ?trace, fun v hv => ?items⟩
    case run => rw [List.map_cons, runProgram_cons_of_next hu, ht]
    case step => rw [htstep, hustep, List.length_cons]; omega
    case trace => rw [httrace, hutrace, List.append_assoc]
    case items =>
      obtain hv | hv := List.mem_append.1 hv
      · exact hitemsU v hv
      · exact hitemsT v hv

/-- BEGIN on an idle block (rule R82). -/
theorem exec_beg_of_idle {s : State} (hs : Legal s) (hrun : s.run = false) :
    exec .beg s = .next { s with step := 0, sel := true, run := true } := by
  rw [exec_beg_of_legal hs, beginCycle_idle hrun]

/-- Settles O41: BEGIN arms at step 0, from where at most sixteen TICKs do not pass the last step. -/
theorem cycleStaysActiveBelowSeventeenTicks : Obligations.CycleStaysActiveBelowSeventeenTicks := by
  intro s ls hs hrun hle
  rw [runProgram_cons_of_next (exec_beg_of_idle hs hrun)]
  obtain ⟨t, ht, htrun, htstep, hrest⟩ :=
    ticks_stay_active ls (s := { s with step := 0, sel := true, run := true }) rfl ((Nat.zero_add _).trans_le hle)
  exact ⟨t, ht, htrun, htstep.trans (Nat.zero_add _), hrest⟩

/-! ### The complete cycle: four groups of sample, toggle, A/Start, toggle, and the last step -/

/-- A running cycle, by the four elements its TICKs below the last step write; the rest is as in `s`. -/
def midCycle (s : State) (n : StepNo) (v : Bool) (m : Mask) (tr : List TraceItem) : State :=
  { s with step := n, sel := v, run := true, mask := m, trace := tr }

theorem exec_beg_midCycle {s : State} (hs : Legal s) (hrun : s.run = false) :
    exec .beg s = .next (midCycle s 0 true s.mask s.trace) := exec_beg_of_idle hs hrun

section
variable {s : State} {n : StepNo} {v : Bool} {m : Mask} {tr : List TraceItem}

theorem exec_tck_midCycle_toggle (hodd : n.toNat % 2 = 1) (hle : n.toNat ≤ 15) (l : Line) :
    exec (.tck l) (midCycle s n v m tr) = .next (midCycle s (n + 1) (!v) m (tr ++ [.selWrite !v])) := by
  have hlegal : Legal (midCycle s n v m tr) := Nat.le_succ_of_le hle
  rw [exec_tck_of_active rfl hlegal, performStep_toggle hodd hle]
  rfl

theorem exec_tck_midCycle_sampling {k : Kind} (hk : k ≠ .tgl) (hlane : lane n = some (laneEntry k false))
    (hlt : n.toNat < 16) (l : Line) :
    exec (.tck l) (midCycle s n v m tr) = .next (midCycle s (n + 1) v (samplePairs (kindPairs k) l m) tr) :=
  exec_tck_sampling rfl hk hlane hlt rfl

/-- The last TICK of a cycle (rule R111). -/
theorem exec_tck_midCycle_finish {l : Line} {m' : Mask} (hn : n = 16) (hm : m' = samplePairs dirPairs l m) :
    exec (.tck l) (midCycle s n v m tr) = .next { s with
      step := 0, sel := true, run := false, mask := m', act := decide (m' ≠ 0)
      trace := tr ++
        [.actWrite (decide (m' ≠ 0)), .report (axisX m') (axisY m') (buttonsByte m')] } := by
  have hlegal : Legal (midCycle s n v m tr) := Nat.le_of_eq (congrArg BitVec.toNat hn)
  rw [exec_tck_of_active rfl hlegal]
  exact performStep_finish (s := midCycle s n v m tr) hn hm

/-- The steps a group starts at, and what stands at the three behind it. -/
theorem group_steps (h : n = 0 ∨ n = 4 ∨ n = 8 ∨ n = 12) :
    n.toNat < 16 ∧ ((n + 1).toNat % 2 = 1 ∧ (n + 1).toNat ≤ 15) ∧
      ((n + 1 + 1).toNat < 16 ∧ lane (n + 1 + 1) = some (laneEntry .as false)) ∧
      ((n + 1 + 1 + 1).toNat % 2 = 1 ∧ (n + 1 + 1 + 1).toNat ≤ 15) ∧ n + 1 + 1 + 1 + 1 = n + 4 := by
  obtain rfl | rfl | rfl | rfl := h <;> decide

/-- Four TICKs from a step of the directional or the extended lane: the first and the third sample, the other two take
SEL down and up again. -/
theorem runProgram_group {k : Kind} (hn : n = 0 ∨ n = 4 ∨ n = 8 ∨ n = 12) (hk : k ≠ .tgl)
    (hlane : lane n = some (laneEntry k false)) (a b c d : Line) (p : List Instr) :
    runProgram (.tck a :: .tck b :: .tck c :: .tck d :: p) (midCycle s n true m tr) =
      runProgram p (midCycle s (n + 4) true (samplePairs asPairs c (samplePairs (kindPairs k) a m))
        (tr ++ [.selWrite false, .selWrite true])) := by
  obtain ⟨hlt, ⟨hodd1, hle1⟩, ⟨hlt2, hlane2⟩, ⟨hodd3, hle3⟩, hnext⟩ := group_steps hn
  rw [runProgram_cons_of_next (exec_tck_midCycle_sampling hk hlane hlt a),
    runProgram_cons_of_next (exec_tck_midCycle_toggle hodd1 hle1 b),
    runProgram_cons_of_next (exec_tck_midCycle_sampling (by decide) hlane2 hlt2 c),
    runProgram_cons_of_next (exec_tck_midCycle_toggle hodd3 hle3 d), hnext, List.append_assoc]
  rfl

end

/-- The last three samples write all twelve bits between them, so what MASK held before them is gone. -/
theorem last_samples_decide_mask (l12 l14 l16 : Line) (m : Mask) :
    samplePairs dirPairs l16 (samplePairs asPairs l14 (samplePairs (kindPairs .ext) l12 m)) =
      l12.extractLsb' 0 1 ++ l12.extractLsb' 1 1 ++ l12.extractLsb' 2 1 ++ l12.extractLsb' 3 1 ++
        l14.extractLsb' 4 2 ++ l16 := by
  apply BitVec.eq_of_getLsbD_eq
  intro i hi
  refine Eq.trans ?_ (BitVec.getLsbD_append (y := l16)).symm
  simp only [samplePairs, kindPairs, dirPairs, asPairs, extPairs, List.foldl, writeButton_getLsbD, buttonBit,
    BitVec.getLsbD_append]
  interval_cases i <;> simp [lineLevel, lineIndex]

/-- Settles O40: BEGIN, the four groups, and the last step, whose mask the samples of steps 12, 14 and 16 decide. -/
theorem completeCycleIsDecidedByThreeSamples : Obligations.CompleteCycleIsDecidedByThreeSamples := by
  intro s l0 l1 l2 l3 l4 l5 l6 l7 l8 l9 l10 l11 l12 l13 l14 l15 l16 m hs hrun hm
  have hmask (m' : Mask) := hm.trans (last_samples_decide_mask l12 l14 l16 m').symm
  simp only [cycle, List.map_cons, List.map_nil]
  rw [runProgram_cons_of_next (exec_beg_midCycle hs hrun),
    runProgram_group (by decide) (by decide) (lane_of_dir (n := 0) (by decide)),
    runProgram_group (by decide) (by decide) (lane_of_dir (n := 0 + 4) (by decide)),
    runProgram_group (by decide) (by decide) (lane_of_dir (n := 0 + 4 + 4) (by decide)),
    runProgram_group (n := 0 + 4 + 4 + 4) (by decide) (by decide) lane_twelve,
    runProgram_cons_of_next (exec_tck_midCycle_finish (by decide) (hmask _)), runProgram]
  simp only [List.append_assoc, List.cons_append, List.nil_append]

/-! ### The ideal pad -/

/-- The bits that the pad presents to the extended lane: Z, Y, X, Mode, B, C from P1 up. -/
theorem padLines_ext_getLsbD (m : Mask) (g : Line) (i : Nat) :
    (padLines m 12 g).getLsbD i =
      if i < 1 then (m.extractLsb' 11 1).getLsbD i
      else if i - 1 < 1 then (m.extractLsb' 10 1).getLsbD (i - 1)
      else if i - 1 - 1 < 1 then (m.extractLsb' 9 1).getLsbD (i - 1 - 1)
      else if i - 1 - 1 - 1 < 1 then (m.extractLsb' 8 1).getLsbD (i - 1 - 1 - 1)
      else (m.extractLsb' 4 2).getLsbD (i - 1 - 1 - 1 - 1) := by
  refine (BitVec.getLsbD_append (x := m.extractLsb' 4 2 ++ m.extractLsb' 8 1 ++ m.extractLsb' 9 1 ++
    m.extractLsb' 10 1) (y := m.extractLsb' 11 1)).trans ?_
  simp only [BitVec.getLsbD_append]

/-- The bits that the pad presents to the A/Start lane: A and Start on P6 and P9, the filler below them. -/
theorem padLines_as_getLsbD (m : Mask) (g : Line) (i : Nat) :
    (padLines m 14 g).getLsbD i =
      if i < 4 then (g.extractLsb' 0 4).getLsbD i else (m.extractLsb' 6 2).getLsbD (i - 4) :=
  BitVec.getLsbD_append (x := m.extractLsb' 6 2) (y := g.extractLsb' 0 4)

theorem padLines_dir (m : Mask) (g : Line) : padLines m 16 g = m.extractLsb' 0 6 := rfl

/-- The pad presents its mask where the last three samples look for it (rule R74). -/
theorem padLines_inverts_last_samples (m : Mask) (g : Line) :
    m = (padLines m 12 g).extractLsb' 0 1 ++ (padLines m 12 g).extractLsb' 1 1 ++
      (padLines m 12 g).extractLsb' 2 1 ++ (padLines m 12 g).extractLsb' 3 1 ++
      (padLines m 14 g).extractLsb' 4 2 ++ padLines m 16 g := by
  apply BitVec.eq_of_getLsbD_eq
  intro i hi
  refine Eq.trans ?_ (BitVec.getLsbD_append (y := padLines m 16 g)).symm
  simp only [BitVec.getLsbD_append, BitVec.getLsbD_extractLsb', padLines_ext_getLsbD, padLines_as_getLsbD, padLines_dir]
  interval_cases i <;> simp

/-- Settles O42: PAD is a cycle, and its three deciding samples are cut from M. -/
theorem padEndsWithItsMask : Obligations.PadEndsWithItsMask := by
  intro s m g hs hrun
  exact ⟨_, completeCycleIsDecidedByThreeSamples s _ _ _ _ _ _ _ _ _ _ _ _ _ _ _ _ _ m hs hrun
    (padLines_inverts_last_samples m g), rfl, rfl, rfl⟩

end Sys2Proof.Machine
end

section
/-! The statement that no cycle shows the mask it started from (rule R152): two runs that differ in MASK only stay so,
because every button is written before the report reads it. -/

namespace Sys2Proof.Machine

/-! ### Masks that agree on the buttons already sampled for good -/

/-- Every button's bit is one of MASK's twelve, and every bit a button's (rule R26). -/
theorem mask_ext {m m' : Mask} (h : ∀ btn, readButton m btn = readButton m' btn) : m = m' := by
  apply BitVec.eq_of_getLsbD_eq
  intro i hi
  obtain ⟨btn, rfl⟩ : ∃ btn, buttonBit btn = i := by
    interval_cases i
    exacts [⟨.up, rfl⟩, ⟨.down, rfl⟩, ⟨.left, rfl⟩, ⟨.right, rfl⟩, ⟨.b, rfl⟩, ⟨.c, rfl⟩, ⟨.a, rfl⟩, ⟨.start, rfl⟩,
      ⟨.mode, rfl⟩, ⟨.x, rfl⟩, ⟨.y, rfl⟩, ⟨.z, rfl⟩]
  exact h btn

/-- The masks agree on the buttons that the steps from `n` on leave alone: those whose steps of rule R26 all lie below
`n`. -/
def AgreeBefore (n : Nat) (m m' : Mask) : Prop :=
  ∀ btn, (∀ k ∈ writtenAt btn, k < n) → readButton m btn = readButton m' btn

/-- Every button is still to be written at step 0. -/
theorem agreeBefore_zero (m m' : Mask) : AgreeBefore 0 m m' := by
  intro btn h
  obtain ⟨k, hk⟩ : ∃ k, k ∈ writtenAt btn := by cases btn <;> exact ⟨_, List.mem_cons_self⟩
  exact absurd (h k hk) (Nat.not_lt_zero k)

/-- A step whose number is in a button's row of rule R26 lists the button in its lane. -/
theorem lane_lists_of_writtenAt (n : StepNo) (btn : Button) :
    ∀ e ∈ lane n, n.toNat ∈ writtenAt btn → btn ∈ e.pairs.map Prod.snd := by
  revert n
  cases btn <;> decide

/-- A sampling takes a listed button from the lines and leaves an unlisted one, so it keeps agreement and makes it on
the listed buttons. -/
theorem readButton_samplePairs_agree {k : Kind} {btn : Button} {m m' : Mask} (l : Line)
    (h : btn ∈ (kindPairs k).map Prod.snd ∨ readButton m btn = readButton m' btn) :
    readButton (samplePairs (kindPairs k) l m) btn = readButton (samplePairs (kindPairs k) l m') btn := by
  by_cases hlisted : ∃ p, (p, btn) ∈ kindPairs k
  · obtain ⟨p, hp⟩ := hlisted
    have hnodup := kindPairs_buttons_nodup k
    rw [readButton_samplePairs_listed hnodup hp, readButton_samplePairs_listed hnodup hp]
  · have hunlisted : ∀ p, (p, btn) ∉ kindPairs k := fun p hp => hlisted ⟨p, hp⟩
    obtain hmem | heq := h
    · obtain ⟨⟨p, _⟩, hp, rfl⟩ := List.mem_map.1 hmem
      exact absurd hp (hunlisted p)
    · rw [readButton_samplePairs_unlisted hunlisted, readButton_samplePairs_unlisted hunlisted, heq]

/-- A step's sampling settles the buttons whose last step it is. -/
theorem AgreeBefore.sample {n : StepNo} {e : LaneEntry} {m m' : Mask} (h : AgreeBefore n.toNat m m')
    (hlane : lane n = some e) (l : Line) :
    AgreeBefore (n.toNat + 1) (samplePairs (kindPairs e.kind) l m) (samplePairs (kindPairs e.kind) l m') := by
  intro btn hbtn
  apply readButton_samplePairs_agree
  by_cases hnow : n.toNat ∈ writtenAt btn
  · left
    rw [← lane_pairs hlane]
    exact lane_lists_of_writtenAt n btn e hlane hnow
  · right
    refine h btn fun k hk => Nat.lt_of_le_of_ne (Nat.le_of_lt_succ (hbtn k hk)) ?_
    rintro rfl
    exact hnow hk

/-- Every button has its last step by step 16. -/
theorem AgreeBefore.eq {m m' : Mask} (h : AgreeBefore 17 m m') : m = m' :=
  mask_ext fun btn => h btn (by cases btn <;> decide)

/-! ### Two runs -/

/-- What keeps the starting mask from showing: an active block's masks agree on all that later steps leave alone. -/
def MaskHidden (s : State) (m : Mask) : Prop := s.run = true → AgreeBefore s.step.toNat m s.mask

theorem maskHidden_of_idle {s : State} (hrun : s.run = false) (m : Mask) : MaskHidden s m :=
  fun hactive => absurd (hrun.symm.trans hactive) Bool.false_ne_true

/-- Events on two such states have the same outcome up to MASK. A toggle counts as a step that samples nothing; at the
last step the two masks become equal, and with them the indicator and the report. -/
theorem EventOutcome.with_mask {i : Instr} {s t : State} {m : Mask} (h : EventOutcome i s t) (hm : MaskHidden s m) :
    ∃ m', EventOutcome i { s with mask := m } { t with mask := m' } ∧ MaskHidden t m' := by
  cases h with
  | reset hi => exact ⟨0, .reset hi, maskHidden_of_idle rfl 0⟩
  | idleHold hi hbeg hrun => exact ⟨m, .idleHold hi hbeg hrun, hm⟩
  | arm hbeg hrun => exact ⟨m, .arm hbeg hrun, fun _ => agreeBefore_zero m s.mask⟩
  | activeHold hi htick hrun => exact ⟨m, .activeHold hi htick hrun, hm⟩
  | toggle htick hrun hodd hlt =>
    refine ⟨m, .toggle htick hrun hodd hlt, fun _ => ?_⟩
    rw [step_succ_toNat hlt]
    exact (hm hrun).sample (lane_of_odd hodd (by omega)) 0
  | sampling l k hl hrun heven hlt hk hlane =>
    refine ⟨samplePairs (kindPairs k) l m, .sampling l k hl hrun heven hlt hk hlane, fun _ => ?_⟩
    rw [step_succ_toNat hlt]
    exact (hm hrun).sample hlane l
  | finish l u hl hrun hstep hu =>
    have hagree : AgreeBefore 16 m s.mask := by
      have := hm hrun
      rwa [(step_eq_sixteen_iff s).1 hstep] at this
    have heq : samplePairs dirPairs l m = samplePairs dirPairs l s.mask :=
      (AgreeBefore.sample (n := 16) hagree lane_sixteen l).eq
    exact ⟨u, .finish l u hl hrun hstep (hu.trans heq.symm), fun _ => fun _ _ => rfl⟩

theorem takeStimulus_with_mask (s : State) (m : Mask) :
    takeStimulus { s with mask := m } = ((takeStimulus s).1, { (takeStimulus s).2 with mask := m }) := by
  unfold takeStimulus
  dsimp only
  split <;> rfl

theorem step_with_mask {s t : State} {m : Mask} (h : step s = .next t) (hm : MaskHidden s m) :
    ∃ m', step { s with mask := m } = .next { t with mask := m' } ∧ MaskHidden t m' := by
  obtain ⟨hs, hout⟩ := (exec_event_iff (isEvent_presented s)).1 h
  have hm' : MaskHidden (takeStimulus s).2 m := by
    rwa [MaskHidden, takeStimulus_run, takeStimulus_step, takeStimulus_mask]
  obtain ⟨m', hout', hhidden⟩ := hout.with_mask hm'
  refine ⟨m', ?_, hhidden⟩
  rw [step, takeStimulus_with_mask]
  exact exec_of_outcome (isEvent_presented s) hs hout'

theorem runSteps_with_mask (n : Nat) {s t : State} {m : Mask} (h : runSteps n s = .next t) (hm : MaskHidden s m) :
    ∃ m', runSteps n { s with mask := m } = .next { t with mask := m' } := by
  induction n generalizing s m with
  | zero =>
    cases h
    exact ⟨m, rfl⟩
  | succ n ih =>
    obtain ⟨u, hu, hrest⟩ := andThen_eq_next.1 h
    obtain ⟨mu, hstep, hmu⟩ := step_with_mask hu hm
    rw [runSteps_succ, hstep, andThen_next]
    exact ih hrest hmu

/-- Settles O43: from idle every mask is hidden, every step keeps it hidden, and the report reads none of it. -/
theorem nothingShowsTheMaskACycleStartsFrom : Obligations.NothingShowsTheMaskACycleStartsFrom :=
  fun n _ _ m hrun h => runSteps_with_mask n h (maskHidden_of_idle hrun m)

end Sys2Proof.Machine
end
